-- ==== Sys2Proof/Word.lean ====
section
/-! DEFINITION. The word and byte types of the block (00_scope.md R7, 10_state.md R23, R33). -/

namespace Sys2Proof

/-- A 64-bit unsigned word: a register, a lane, a counter (R7). -/
abbrev Word := BitVec 64

/-- A cell of BM, IN, PFX or OUT (R33). -/
abbrev Byte := BitVec 8

end Sys2Proof
end

