-- ==== Sys2Proof/Syntax.lean ====
section
/-! DEFINITION. The operations of the block: one constructor per row of spec/opcode_table.json
(30_encoding.md R91, R93). No command and no micro-operation has an operand field (R95). -/

namespace Sys2Proof

/-- The five commands (R91) and the 42 micro-operations (R93), in the order of the opcode table. -/
inductive Instr where
  -- commands, format CMD
  | init
  | hash
  | prehash
  | posthash
  | hashbatch
  -- routine 1 BUILD
  | check
  | fill
  | shuf
  -- routine 2 FSTEP
  | fsB
  | fsAs
  | fsS1
  | fsHs
  | fsRot
  -- routine 3 STEP
  | stL01
  | stL02
  | stL03
  | stL04
  | stL05
  | stL06
  | stL07
  | stL08
  | stL09
  | stL10
  | stL11
  | stL12
  | stL13
  | stL14
  | stL15
  | stL16
  | stL17
  | stL18
  | stL19
  | stL20
  | stL21
  | stL22
  | stL23
  | stL24
  | stL25
  | stL26
  | stL27
  | stRot
  -- routine 4 RED
  | redLoad
  | redEmit
  -- routine 5 SEQ
  | hinit
  | ldin
  | adv
  | resume
  deriving DecidableEq, Repr

end Sys2Proof
end

