-- ==== Sys2Proof/Decode.lean ====
section
/-! DEFINITION. Decoding and encoding (30_encoding.md R90, R91, R93, R94): a command word is 64 bits, all of them significant,
and a micro-address is 8 bits. Nothing is laid out in bytes: the block has no byte order (20_memory.md R62). -/

namespace Sys2Proof

/-- The two formats of R90 and R93. -/
inductive Code where
  /-- Format CMD: what the host writes to `CMD`. -/
  | command (w : BitVec 64)
  /-- Format UOP: what the sequencer holds in `upc`. -/
  | uop (a : BitVec 8)
  deriving DecidableEq, Repr

/-- Why a code is no operation. -/
inductive DecodeError where
  /-- A command word with a bit of 63:8 set (R94). -/
  | reservedBits
  /-- A command word whose `OPCODE` is 0x00 or 0x06 to 0xFF (R94). -/
  | reservedOpcode
  /-- `upc` = 0x00: no command is running; a state and not an operation (R24, R99). -/
  | idle
  /-- A value of `upc` that R93 does not define. -/
  | unusedMicroAddress
  deriving DecidableEq, Repr

/-- `OPCODE`, bits 7:0 of a command word (R90). -/
def opcodeField (w : BitVec 64) : BitVec 8 := w.extractLsb' 0 8

/-- Bits 63:8 of a command word, which must be zero (R90). -/
def reservedField (w : BitVec 64) : BitVec 56 := w.extractLsb' 8 56

/-- The opcodes of R91. -/
def opcodeTable : List (BitVec 8 × Instr) :=
  [
    (0x01#8, .init),
    (0x02#8, .hash),
    (0x03#8, .prehash),
    (0x04#8, .posthash),
    (0x05#8, .hashbatch)
  ]

/-- Routine 1 BUILD (R93). -/
def buildTable : List (BitVec 8 × Instr) :=
  [
    (0x20#8, .check),
    (0x21#8, .fill),
    (0x22#8, .shuf)
  ]

/-- Routine 2 FSTEP (R93). -/
def fstepTable : List (BitVec 8 × Instr) :=
  [
    (0x41#8, .fsB),
    (0x42#8, .fsAs),
    (0x43#8, .fsS1),
    (0x44#8, .fsHs),
    (0x45#8, .fsRot)
  ]

/-- Routine 3 STEP: line nn of the listing has micro-address 0x60 + nn (R93). -/
def stepTable : List (BitVec 8 × Instr) :=
  [
    (0x61#8, .stL01),
    (0x62#8, .stL02),
    (0x63#8, .stL03),
    (0x64#8, .stL04),
    (0x65#8, .stL05),
    (0x66#8, .stL06),
    (0x67#8, .stL07),
    (0x68#8, .stL08),
    (0x69#8, .stL09),
    (0x6A#8, .stL10),
    (0x6B#8, .stL11),
    (0x6C#8, .stL12),
    (0x6D#8, .stL13),
    (0x6E#8, .stL14),
    (0x6F#8, .stL15),
    (0x70#8, .stL16),
    (0x71#8, .stL17),
    (0x72#8, .stL18),
    (0x73#8, .stL19),
    (0x74#8, .stL20),
    (0x75#8, .stL21),
    (0x76#8, .stL22),
    (0x77#8, .stL23),
    (0x78#8, .stL24),
    (0x79#8, .stL25),
    (0x7A#8, .stL26),
    (0x7B#8, .stL27),
    (0x7C#8, .stRot)
  ]

/-- Routine 4 RED (R93). -/
def redTable : List (BitVec 8 × Instr) :=
  [
    (0x80#8, .redLoad),
    (0x81#8, .redEmit)
  ]

/-- Routine 5 SEQ (R93). -/
def seqTable : List (BitVec 8 × Instr) :=
  [
    (0xA0#8, .hinit),
    (0xA1#8, .ldin),
    (0xA2#8, .adv),
    (0xA3#8, .resume)
  ]

/-- The micro-addresses of R93, all 42. -/
def uopTable : List (BitVec 8 × Instr) := buildTable ++ fstepTable ++ stepTable ++ redTable ++ seqTable

/-- The operation a table gives for a code. -/
def tableLookup : List (BitVec 8 × Instr) → BitVec 8 → Option Instr
  | [], _ => none
  | (b, i) :: t, a => if a = b then some i else tableLookup t a

/-- Decode a command word: R94's classification, but for the features an instance may lack (`Instr.present`, R253). -/
def decodeCommand (w : BitVec 64) : Except DecodeError Instr :=
  if reservedField w ≠ 0 then .error .reservedBits
  else match tableLookup opcodeTable (opcodeField w) with
    | some i => .ok i
    | none => .error .reservedOpcode

/-- Decode a micro-address (R93). -/
def decodeUop (a : BitVec 8) : Except DecodeError Instr :=
  if a = 0 then .error .idle
  else match tableLookup uopTable a with
    | some i => .ok i
    | none => .error .unusedMicroAddress

/-- Decode a code of either format. -/
def decode (c : Code) : Except DecodeError Instr :=
  match c with
  | .command w => decodeCommand w
  | .uop a => decodeUop a

/-- The code of each operation: the command words of R91 and the micro-addresses of R93. -/
def encode (i : Instr) : Code :=
  match i with
  | .init => .command 0x01#64
  | .hash => .command 0x02#64
  | .prehash => .command 0x03#64
  | .posthash => .command 0x04#64
  | .hashbatch => .command 0x05#64
  | .check => .uop 0x20#8
  | .fill => .uop 0x21#8
  | .shuf => .uop 0x22#8
  | .fsB => .uop 0x41#8
  | .fsAs => .uop 0x42#8
  | .fsS1 => .uop 0x43#8
  | .fsHs => .uop 0x44#8
  | .fsRot => .uop 0x45#8
  | .stL01 => .uop 0x61#8
  | .stL02 => .uop 0x62#8
  | .stL03 => .uop 0x63#8
  | .stL04 => .uop 0x64#8
  | .stL05 => .uop 0x65#8
  | .stL06 => .uop 0x66#8
  | .stL07 => .uop 0x67#8
  | .stL08 => .uop 0x68#8
  | .stL09 => .uop 0x69#8
  | .stL10 => .uop 0x6A#8
  | .stL11 => .uop 0x6B#8
  | .stL12 => .uop 0x6C#8
  | .stL13 => .uop 0x6D#8
  | .stL14 => .uop 0x6E#8
  | .stL15 => .uop 0x6F#8
  | .stL16 => .uop 0x70#8
  | .stL17 => .uop 0x71#8
  | .stL18 => .uop 0x72#8
  | .stL19 => .uop 0x73#8
  | .stL20 => .uop 0x74#8
  | .stL21 => .uop 0x75#8
  | .stL22 => .uop 0x76#8
  | .stL23 => .uop 0x77#8
  | .stL24 => .uop 0x78#8
  | .stL25 => .uop 0x79#8
  | .stL26 => .uop 0x7A#8
  | .stL27 => .uop 0x7B#8
  | .stRot => .uop 0x7C#8
  | .redLoad => .uop 0x80#8
  | .redEmit => .uop 0x81#8
  | .hinit => .uop 0xA0#8
  | .ldin => .uop 0xA1#8
  | .adv => .uop 0xA2#8
  | .resume => .uop 0xA3#8

/-- The micro-address of a micro-operation, for `upc <- target` (00_scope.md R9); a command has none and gives idle. -/
def microAddress (i : Instr) : BitVec 8 :=
  match encode i with
  | .uop a => a
  | .command _ => 0

/-- What the decoder reads from the bits of one row of the opcode table: a row of 8 bits is a micro-address (format UOP), any
other a command word (format CMD), whose bits above those given are zero (log 20). -/
def decodeTableWord (nbits w : Nat) : Option Instr :=
  if nbits = 8 then (decodeUop (BitVec.ofNat 8 w)).toOption
  else (decodeCommand (BitVec.ofNat 64 w)).toOption

end Sys2Proof
end

