-- ==== Sys2Proof/Machine/Bits.lean ====
section
/-! DEFINITION. The bit-field helpers of 00_scope.md R9. -/

namespace Sys2Proof.Machine

/-- `zext_64(b)`: the byte as a 64-bit word with bits 63:8 zero (R9). -/
def zext64 (b : Byte) : Word := b.setWidth 64

/-- `trunc_8(w)`: the low 8 bits (R9). -/
def trunc8 (w : Word) : Byte := w.setWidth 8

/-- `rotl_64(w, n)` for 1 ≤ n ≤ 63 (R9): used by `SHUF_F_DEFAULT` alone. -/
def rotl64 (w : Word) (n : Nat) : Word := (w <<< n) ^^^ (w >>> (64 - n))

end Sys2Proof.Machine
end

