-- ==== Sys2Proof/Config.lean ====
section
/-! DEFINITION. What an instance of the block fixes (00_scope.md R6) and the free values, which the spec leaves open
(93_implementation_defined.md U1, U3, U4, U6). A free value is an opaque constant: no proof can see what it is. -/

namespace Sys2Proof

/-- The byte spaces of R33. `HS[k]`, the one space of 64-bit cells, is not among them. -/
inductive ByteSpace where
  | bm
  | inp (k : Nat)
  | pfx
  | out (k : Nat)
  deriving DecidableEq, Repr

/-- Which stepping function the instance's builder has (R6, R125): the spec's own `SHUF_F_DEFAULT` (R126), or any other
function that meets the contract of R125. -/
inductive ShufChoice where
  | dflt
  | other
  deriving DecidableEq, Repr

/-- The implementation parameters of R6. `N_CTX` is not here: it is the number of contexts the state holds (log 2). -/
structure Instance where
  /-- `BM_CAP_BITS`: log2 of the capacity of the ByteMap RAM. -/
  bmCapBits : Nat
  /-- `HS_CAP`: lanes, and digest bytes, of one context. -/
  hsCap : Nat
  /-- `IN_CAP`: bytes of each input buffer and of `PFX`; may be 2^64. -/
  inCap : Nat
  /-- `HAS_SPLIT`: PREHASH and POSTHASH exist. -/
  hasSplit : Bool
  /-- `HAS_BATCH`: HASHBATCH exists. -/
  hasBatch : Bool
  /-- `SHUF_F`. -/
  shuf : ShufChoice
  deriving DecidableEq, Repr

/-- The defaults R6 uses in its examples (DESIGN CHOICE, log 1; unsafe to lean on: no statement does). -/
def Config.defaultInst : Instance where
  bmCapBits := 25
  hsCap := 64
  inCap := 2 ^ 20
  hasSplit := true
  hasBatch := true
  shuf := .dflt

/-- `N_CTX` of the default instance: R6's batch example (DESIGN CHOICE, log 2; unsafe to lean on). -/
def Config.defaultContexts : Nat := 4

/-- FREE VALUE (U1): the content of a byte cell that nothing has written since the `epoch`-th reset event. -/
opaque Config.unwrittenByte (epoch : Nat) (space : ByteSpace) (addr : Nat) : Byte

/-- FREE VALUE (U1): the content of lane `addr` of `HS[k]` that nothing has written since the `epoch`-th reset event. -/
opaque Config.unwrittenLane (epoch : Nat) (k : Nat) (addr : Nat) : Word

/-- FREE VALUE (U3): what the `t`-th host read of a register other than `STATUS` while busy returns. -/
opaque Config.busyRead (t : Nat) : Word

/-- FREE VALUE (U4): the stepping function of an instance whose `SHUF_F` is not the spec's default, before the mask of
R125 item 3. Its arguments are those of R125 item 1, the table as the function from address to content. -/
opaque Config.shufOther (r i ps : Word) (bm : Word → Byte) (mk : Word) : Word × Word

/-- FREE VALUE (U6, D16): where the register space lies in a system's address map. Read by no rule (R65, log 16). -/
opaque Config.csrBase : Nat

end Sys2Proof
end

