-- ==== Sys2Proof/Machine/State.lean ====
section
/-! DEFINITION. The state of the block (10_state.md R20, the complete state), the reasons a step can stop, and the state
after reset (R35). -/

namespace Sys2Proof.Machine

/-- Why the machine stops. No state that a run reaches gives one of these (20_memory.md R60, 60_exceptions.md R255). -/
inductive Fault where
  /-- Raised by a micro-operation that addresses a cell the instance does not have (log 11). Safe: the machine stops where the
  spec has no such access. -/
  | absentCell
  /-- Raised by a micro-operation that works on a context the instance does not have (log 11). Safe, for the same reason. -/
  | absentContext
  deriving DecidableEq, Repr

/-- Why a step has no meaning. -/
inductive Refusal where
  /-- Raised by `exec` for an instruction that has no meaning yet: by none. Safe. -/
  | notModelled (mnemonic : String)
  /-- Raised by the step at a micro-address that 30_encoding.md R93 does not define and that "cannot occur" (log 12). Safe. -/
  | unusedMicroAddress (a : BitVec 8)
  deriving DecidableEq, Repr

/-- The fields of `STATUS` (R27); its reserved bits read as zero and have no storage. -/
structure Status where
  busy : Bool
  configured : Bool
  done : Bool
  err : Bool
  errcode : Byte
  errinfo : Byte
  deriving DecidableEq, Repr

/-- One context `k`: the running words `as[k]`, `s1[k]`, `s2[k]`, `s3[k]` (R23) and the memories `HS[k]`, `IN[k]`, `OUT[k]`
(R32, R33), each a list of the cells written since reset, addresses strictly rising (log 4). -/
structure Ctx where
  as : Word
  s1 : Word
  s2 : Word
  s3 : Word
  hs : List (Nat × Word)
  inp : List Host.Cell
  out : List Host.Cell
  deriving DecidableEq, Repr

/-- What the host does in one slot: the lines of 30_encoding.md R97, and nothing (log 7). -/
inductive HostEvent where
  /-- `WR reg, value`. -/
  | wr (reg : BitVec 8) (value : Word)
  /-- `RD reg`. -/
  | rd (reg : BitVec 8)
  /-- `WAIT`: read `STATUS` until `BUSY` is 0. -/
  | wait
  /-- `RESET`. -/
  | reset
  /-- The host does nothing in this slot. -/
  | quiet
  deriving DecidableEq, Repr

/-- The state of the block (R20), the constants of the instance included, and four fields of the model's own. -/
structure State where
  /-- The constants of the instance (R6, R31). -/
  inst : Instance
  /-- `STATUS` (R27). -/
  status : Status
  /-- `SEED` (R21). -/
  seed : Word
  /-- `MAPSIZEBITS` (R21). -/
  mapSizeBits : Word
  /-- `HASHSIZE` (R21). -/
  hashSize : Word
  /-- `PASSES` (R21). -/
  passes : Word
  /-- `MAPSIZE` (R21). -/
  mapSize : Word
  /-- `MK` (R21). -/
  mask : Word
  /-- `ARG_SEED` (R22). -/
  argSeed : Word
  /-- `ARG_MAPBITS` (R22). -/
  argMapbits : Word
  /-- `ARG_HASHSIZE` (R22). -/
  argHashsize : Word
  /-- `ARG_PASSES` (R22). -/
  argPasses : Word
  /-- `LEN` (R22). -/
  len : Word
  /-- `PLEN` (R22). -/
  plen : Word
  /-- `NBATCH` (R22). -/
  nbatch : Word
  /-- `CTXSEL` (R30). -/
  ctxsel : Word
  /-- `WADDR` (R30). -/
  waddr : Word
  /-- The contexts, `N_CTX` of them (R6, R23). -/
  ctxs : List Ctx
  /-- The micro-address (R24). -/
  upc : BitVec 8
  /-- Input position (R25). -/
  p : Word
  /-- Lane index (R25). -/
  idx : Word
  /-- Builder position, reduction index (R25). -/
  i : Word
  /-- Builder pass number (R25). -/
  ps : Word
  /-- Context being advanced (R25). -/
  kc : Word
  /-- Which pass of the hash is running (R25). -/
  ph : BitVec 2
  /-- Input value of the current FastStep or Step (R26). -/
  v2 : Word
  /-- Probe result of FastStep (R26). -/
  bt : Word
  /-- Rolling state of the builder (R26). -/
  r : Word
  /-- Partner index of the builder (R26). -/
  j : Word
  /-- Opcode of the running command (R26). -/
  cmd : Byte
  /-- Total length of the effective input (R26). -/
  n : Word
  /-- Length of the common or already hashed first part (R26). -/
  m : Word
  /-- Number of contexts the command runs (R26). -/
  nb : Word
  /-- The copy `seed` of `ARG_SEED` that CHECK works on (40_bytemap_builder.md R121, log 9). -/
  cSeed : Word
  /-- The copy `mb` of `ARG_MAPBITS` (R121). -/
  cMb : Word
  /-- The copy `hsz` of `ARG_HASHSIZE` (R121). -/
  cHsz : Word
  /-- The copy `pas` of `ARG_PASSES` (R121). -/
  cPas : Word
  /-- The ByteMap (R33). -/
  bm : List Host.Cell
  /-- The buffer `PFX` (R33). -/
  pfx : List Host.Cell
  /-- MODEL: what the host is still to do, one event a slot (log 7). -/
  host : List HostEvent
  /-- MODEL: the value the last host read returned (log 8). -/
  rdata : Word
  /-- MODEL: how many unspecified host reads there have been (log 6). -/
  freeReads : Nat
  /-- MODEL: how many reset events there have been (log 4, log 21). -/
  epoch : Nat
  deriving DecidableEq, Repr

/-- What an operation answers. -/
abbrev Result := Host.Outcome State Fault Refusal

/-- A context right after reset (R35): running words 0, no cell written. -/
def Ctx.blank : Ctx where
  as := 0
  s1 := 0
  s2 := 0
  s3 := 0
  hs := []
  inp := []
  out := []

/-- `STATUS` after reset (R35): 0. -/
def Status.idle : Status where
  busy := false
  configured := false
  done := false
  err := false
  errcode := 0
  errinfo := 0

/-- An instance with `nCtx` contexts right after reset (R35). The counters and latches, which R35 leaves unspecified, are 0
(DESIGN CHOICE, log 5, unsafe to lean on: the spec says each is loaded before it is read). -/
def State.fresh (inst : Instance) (nCtx : Nat) : State where
  inst := inst
  status := Status.idle
  seed := 0
  mapSizeBits := 0
  hashSize := 0
  passes := 0
  mapSize := 0
  mask := 0
  argSeed := 0
  argMapbits := 0
  argHashsize := 0
  argPasses := 0
  len := 0
  plen := 0
  nbatch := 0
  ctxsel := 0
  waddr := 0
  ctxs := List.replicate nCtx Ctx.blank
  upc := 0
  p := 0
  idx := 0
  i := 0
  ps := 0
  kc := 0
  ph := 0
  v2 := 0
  bt := 0
  r := 0
  j := 0
  cmd := 0
  n := 0
  m := 0
  nb := 0
  cSeed := 0
  cMb := 0
  cHsz := 0
  cPas := 0
  bm := []
  pfx := []
  host := []
  rdata := 0
  freeReads := 0
  epoch := 0

/-- The machine right after reset, on the default instance of R6 (log 1, log 2), the host silent. -/
def State.reset : State := State.fresh Config.defaultInst Config.defaultContexts

/-- `N_CTX`: the number of contexts of the instance (R6, log 2). -/
abbrev State.nCtx (s : State) : Nat := s.ctxs.length

end Sys2Proof.Machine
end

