-- ==== Sys2Proof/Machine/Flags.lean ====
section
/-! DEFINITION. The flags of the block are the fields of `STATUS` (10_state.md R27); it has no condition codes. What sets and
clears each, the word a host reads, and the errors with their numbers (60_exceptions.md R250, R251). -/

namespace Sys2Proof.Machine

/-- Every error the block can report, with its sub-cause (R250, R251). -/
inductive BlockError where
  | hashsizeZero
  | mapbitsRange
  | hashsizeCap
  | allocationFailure
  | badOpcode
  | notConfigured
  | badLength
  | badBatch
  deriving DecidableEq, Repr

/-- `ERRCODE` (R250): 1 ConfigurationError, 2 AllocationFailure, 3 IllegalCommand. -/
def errcodeOf (e : BlockError) : Byte :=
  match e with
  | .hashsizeZero => 1
  | .mapbitsRange => 1
  | .hashsizeCap => 1
  | .allocationFailure => 2
  | .badOpcode => 3
  | .notConfigured => 3
  | .badLength => 3
  | .badBatch => 3

/-- `ERRINFO` (R251). -/
def errinfoOf (e : BlockError) : Byte :=
  match e with
  | .hashsizeZero => 1
  | .mapbitsRange => 2
  | .hashsizeCap => 3
  | .allocationFailure => 0
  | .badOpcode => 1
  | .notConfigured => 2
  | .badLength => 3
  | .badBatch => 4

/-- The word a read of `STATUS` returns (R27): bit 0 BUSY, 1 CONFIGURED, 2 DONE, 3 ERR, 15:8 ERRCODE, 23:16 ERRINFO, the
others zero. -/
def statusWord (t : Status) : Word :=
  zext64 (BitVec.ofBool t.busy |>.setWidth 8)
    ||| (zext64 (BitVec.ofBool t.configured |>.setWidth 8) <<< 1)
    ||| (zext64 (BitVec.ofBool t.done |>.setWidth 8) <<< 2)
    ||| (zext64 (BitVec.ofBool t.err |>.setWidth 8) <<< 3)
    ||| (zext64 t.errcode <<< 8)
    ||| (zext64 t.errinfo <<< 16)

/-- The first assignment of acceptance (30_encoding.md R92): busy, nothing done, no error; CONFIGURED as it was. -/
def statusAccepted (t : Status) : Status :=
  { t with busy := true, done := false, err := false, errcode := 0, errinfo := 0 }

/-- CONFIGURED cleared (R121, R27). -/
def statusUnconfigured (t : Status) : Status := { t with configured := false }

/-- Successful end of a hash command (45_hash_sequencer.md R215). -/
def statusDone (t : Status) : Status := { t with done := true, busy := false }

/-- Successful end of INIT (40_bytemap_builder.md R122). -/
def statusConfigured (t : Status) : Status := { t with configured := true, done := true, busy := false }

/-- `raise E(info)` as far as `STATUS` goes (60_exceptions.md R256). -/
def statusRaised (e : BlockError) (t : Status) : Status :=
  { t with err := true, errcode := errcodeOf e, errinfo := errinfoOf e, done := false, busy := false }

/-- One error at most is reported, the first in the order tested (R254): the first cause of the list that holds. -/
def firstError : List (Bool × BlockError) → Option BlockError
  | [] => none
  | (holds, e) :: rest => if holds then some e else firstError rest

end Sys2Proof.Machine
end

