-- ==== Sys2Proof/Machine/Ops.lean ====
section
/-! DEFINITION. The named operations over memory, registers and the sequencer that the meanings share: `MemRead` and
`MemWrite` (20_memory.md R60), contexts, `upc <- target`, acceptance (30_encoding.md R92), `raise` (60_exceptions.md R256), the
ends of commands (R122, R215) and the reset event (70_reset_and_hazards.md R280). -/

namespace Sys2Proof.Machine

/-- The content of cell `a` of a memory, if something has written it since reset. -/
def cellGet {α : Type} : List (Nat × α) → Nat → Option α
  | [], _ => none
  | (b, v) :: t, a => if a = b then some v else cellGet t a

/-- Write `v` to cell `a`, keeping the addresses strictly rising. -/
def cellPut {α : Type} (a : Nat) (v : α) : List (Nat × α) → List (Nat × α)
  | [] => [(a, v)]
  | (b, u) :: t =>
    if a < b then (a, v) :: (b, u) :: t
    else if a = b then (a, v) :: t
    else (b, u) :: cellPut a v t

/-- The canonical form of a memory: addresses strictly rising. An unlisted cell reads as a free value, which no listed value
is known to equal, so nothing else is asked of an entry (log 4). -/
abbrev Memory.wf {α : Type} (m : List (Nat × α)) : Prop := m.Pairwise fun x y => x.1 < y.1

/-- The cells written so far of a byte space; none for a context the instance does not have. -/
def State.byteCells (s : State) (sp : ByteSpace) : List Host.Cell :=
  match sp with
  | .bm => s.bm
  | .pfx => s.pfx
  | .inp k => ((s.ctxs[k]?).map Ctx.inp).getD []
  | .out k => ((s.ctxs[k]?).map Ctx.out).getD []

/-- The cell exists on this instance (R33's column "present"). -/
def State.hasByte (s : State) (sp : ByteSpace) (a : Nat) : Bool :=
  match sp with
  | .bm => decide (a < 2 ^ s.inst.bmCapBits)
  | .pfx => decide (a < s.inst.inCap)
  | .inp k => decide (k < s.nCtx) && decide (a < s.inst.inCap)
  | .out k => decide (k < s.nCtx) && decide (a < s.inst.hsCap)

/-- What an existing byte cell holds: the value last written, or the free value of an unwritten one (R60, U1). This is the
model's read of one byte. -/
def State.peekByte (s : State) (sp : ByteSpace) (a : Nat) : Byte :=
  (cellGet (s.byteCells sp) a).getD (Config.unwrittenByte s.epoch sp a)

/-- `MemRead(space, a, 1)` (R60); none where there is no such cell. -/
def State.readByte (s : State) (sp : ByteSpace) (a : Nat) : Option Byte :=
  if s.hasByte sp a then some (s.peekByte sp a) else none

/-- Replace the written cells of a byte space. -/
def State.setByteCells (s : State) (sp : ByteSpace) (f : List Host.Cell → List Host.Cell) : State :=
  match sp with
  | .bm => { s with bm := f s.bm }
  | .pfx => { s with pfx := f s.pfx }
  | .inp k => { s with ctxs := s.ctxs.modify k fun c => { c with inp := f c.inp } }
  | .out k => { s with ctxs := s.ctxs.modify k fun c => { c with out := f c.out } }

/-- Store to a byte cell that exists. -/
def State.pokeByte (s : State) (sp : ByteSpace) (a : Nat) (v : Byte) : State := s.setByteCells sp (cellPut a v)

/-- `MemWrite(space, a, 1, v)` (R60); none where there is no such cell. -/
def State.writeByte (s : State) (sp : ByteSpace) (a : Nat) (v : Byte) : Option State :=
  if s.hasByte sp a then some (s.pokeByte sp a v) else none

/-- Lane `a` of `HS[k]` exists on this instance (R32). -/
def State.hasLane (s : State) (k a : Nat) : Bool := decide (k < s.nCtx) && decide (a < s.inst.hsCap)

/-- What an existing lane holds (R60, U1). -/
def State.peekLane (s : State) (k a : Nat) : Word :=
  (((s.ctxs[k]?).map Ctx.hs).bind fun m => cellGet m a).getD (Config.unwrittenLane s.epoch k a)

/-- `MemRead(HS[k], a, 8)` (R60); none where there is no such lane. -/
def State.readLane (s : State) (k a : Nat) : Option Word := if s.hasLane k a then some (s.peekLane k a) else none

/-- Store to a lane that exists; a lane is always written whole (R32). -/
def State.pokeLane (s : State) (k a : Nat) (v : Word) : State :=
  { s with ctxs := s.ctxs.modify k fun c => { c with hs := cellPut a v c.hs } }

/-- `MemWrite(HS[k], a, 8, v)` (R60); none where there is no such lane. -/
def State.writeLane (s : State) (k a : Nat) (v : Word) : Option State :=
  if s.hasLane k a then some (s.pokeLane k a v) else none

/-- Go on with what a memory access gave; stop where the cell does not exist (log 11). -/
def orFault {α : Type} (x : Option α) (f : α → Result) : Result :=
  match x with
  | some a => f a
  | none => .fault .absentCell

/-- Work on the current context `k = kc` (46_optional_commands.md R236); stop where it does not exist (log 11). -/
def withCtx (s : State) (f : Ctx → Result) : Result :=
  match s.ctxs[s.kc.toNat]? with
  | some c => f c
  | none => .fault .absentContext

/-- Write the current context back. -/
def State.setCtx (s : State) (c : Ctx) : State := { s with ctxs := s.ctxs.set s.kc.toNat c }

/-- `upc <- target` (R24). -/
def State.goto (s : State) (target : Instr) : State := { s with upc := microAddress target }

/-- Acceptance's first assignments (R92): the result and the error of the command before are cleared. This is also how the
block leaves an error (60_exceptions.md R257); there is no return from one. -/
def accepted (s : State) : State := { s with status := statusAccepted s.status }

/-- TAKING AN EXCEPTION: `raise E(info)` (R256). The error is recorded, the command is over, nothing is saved and there is no
handler to go to. -/
def raise (e : BlockError) (s : State) : State := { s with status := statusRaised e s.status, upc := 0 }

/-- Successful end of a hash command (45_hash_sequencer.md R215). -/
def endHash (s : State) : State := { s with status := statusDone s.status, upc := 0 }

/-- Successful end of INIT (40_bytemap_builder.md R122). -/
def endInit (s : State) : State := { s with status := statusConfigured s.status, upc := 0 }

/-- The acceptance of a command (R92), after its opcode has been recognised: ignored while busy, `raise` if a check of R253
fails, else the command latches and the first micro-operation. A failed check changes nothing but `STATUS` (D19, log 13). -/
def acceptance (s : State) (opcode : Byte) (failed : Option BlockError) (latch : State → State) (first : Instr) : Result :=
  if s.status.busy then .next s
  else match failed with
    | some e => .next (raise e (accepted s))
    | none => .next (({ latch (accepted s) with cmd := opcode }).goto first)

/-- The reset event (70_reset_and_hazards.md R280), at any time, a running command abandoned: every register as after reset,
every memory unspecified again (a new epoch, log 21). The instance, what the host is still to do and the last value it read
stay. -/
def resetEvent (s : State) : State :=
  { State.fresh s.inst s.nCtx with
    host := s.host, rdata := s.rdata, freeReads := s.freeReads, epoch := s.epoch + 1 }

end Sys2Proof.Machine
end

