-- ==== Sys2Proof/Machine/Csr.lean ====
section
/-! DEFINITION. The register space CSR (10_state.md R28), its access rules (R29), the window registers (R30) and the capability
registers (R31). -/

namespace Sys2Proof.Machine

/-- The 31 defined registers of R28. -/
inductive Csr where
  | cmd
  | status
  | argSeed
  | argMapbits
  | argHashsize
  | argPasses
  | len
  | plen
  | nbatch
  | seed
  | mapSizeBits
  | hashSize
  | passes
  | mapSize
  | mk
  | ctxsel
  | waddr
  | as
  | s1
  | s2
  | s3
  | bmData
  | hsData
  | inData
  | pfxData
  | outData
  | capBm
  | capHs
  | capIn
  | capCtx
  | capFeat
  deriving DecidableEq, Repr

/-- The register numbers of R28. -/
def csrTable : List (BitVec 8 × Csr) :=
  [
    (0x00#8, .cmd), (0x01#8, .status), (0x02#8, .argSeed), (0x03#8, .argMapbits), (0x04#8, .argHashsize),
    (0x05#8, .argPasses), (0x06#8, .len), (0x07#8, .plen), (0x08#8, .nbatch),
    (0x10#8, .seed), (0x11#8, .mapSizeBits), (0x12#8, .hashSize), (0x13#8, .passes), (0x14#8, .mapSize), (0x15#8, .mk),
    (0x18#8, .ctxsel), (0x19#8, .waddr), (0x1A#8, .as), (0x1B#8, .s1), (0x1C#8, .s2), (0x1D#8, .s3),
    (0x20#8, .bmData), (0x21#8, .hsData), (0x22#8, .inData), (0x23#8, .pfxData), (0x24#8, .outData),
    (0x30#8, .capBm), (0x31#8, .capHs), (0x32#8, .capIn), (0x33#8, .capCtx), (0x34#8, .capFeat)
  ]

/-- The register a table gives for a number. -/
def csrLookup : List (BitVec 8 × Csr) → BitVec 8 → Option Csr
  | [], _ => none
  | (b, q) :: t, a => if a = b then some q else csrLookup t a

/-- The register of a number; none where the number is reserved (R28). -/
def csrOf (number : BitVec 8) : Option Csr := csrLookup csrTable number

/-- A configuration register as the host reads it: zero while `CONFIGURED` is 0 (R21, log 17). -/
def configRead (s : State) (v : Word) : Word := if s.status.configured then v else 0

/-- A running word of context `CTXSEL`; zero for a context the instance does not have (R29 item 3). -/
def wordRead (s : State) (f : Ctx → Word) : Word := ((s.ctxs[s.ctxsel.toNat]?).map f).getD 0

/-- Write a running word of context `CTXSEL`; ignored for a context the instance does not have (R29 item 3). -/
def wordWrite (s : State) (f : Ctx → Ctx) : State := { s with ctxs := s.ctxs.modify s.ctxsel.toNat f }

/-- Read a byte window: zero where there is no such cell (R29 item 3, R30). -/
def byteWindowRead (s : State) (sp : ByteSpace) : Word := ((s.readByte sp s.waddr.toNat).map zext64).getD 0

/-- Write a byte window: bits 7:0 are stored, bits 63:8 ignored (R28); ignored where there is no such cell (R30). -/
def byteWindowWrite (s : State) (sp : ByteSpace) (v : Word) : State := (s.writeByte sp s.waddr.toNat (trunc8 v)).getD s

/-- `CAP_FEAT` (R28): bit 0 HAS_SPLIT, bit 1 HAS_BATCH. -/
def featureWord (c : Instance) : Word := BitVec.ofNat 64 (c.hasSplit.toNat + 2 * c.hasBatch.toNat)

/-- What a read of a register returns while the block is idle (R28, R29 item 1). -/
def csrRead (s : State) (q : Csr) : Word :=
  match q with
  | .cmd => 0
  | .status => statusWord s.status
  | .argSeed => s.argSeed
  | .argMapbits => s.argMapbits
  | .argHashsize => s.argHashsize
  | .argPasses => s.argPasses
  | .len => s.len
  | .plen => s.plen
  | .nbatch => s.nbatch
  | .seed => configRead s s.seed
  | .mapSizeBits => configRead s s.mapSizeBits
  | .hashSize => configRead s s.hashSize
  | .passes => configRead s s.passes
  | .mapSize => configRead s s.mapSize
  | .mk => configRead s s.mask
  | .ctxsel => s.ctxsel
  | .waddr => s.waddr
  | .as => wordRead s Ctx.as
  | .s1 => wordRead s Ctx.s1
  | .s2 => wordRead s Ctx.s2
  | .s3 => wordRead s Ctx.s3
  | .bmData => configRead s (zext64 (s.peekByte .bm (s.waddr &&& s.mask).toNat))
  | .hsData => (s.readLane s.ctxsel.toNat s.waddr.toNat).getD 0
  | .inData => byteWindowRead s (.inp s.ctxsel.toNat)
  | .pfxData => byteWindowRead s .pfx
  | .outData => byteWindowRead s (.out s.ctxsel.toNat)
  | .capBm => BitVec.ofNat 64 s.inst.bmCapBits
  | .capHs => BitVec.ofNat 64 s.inst.hsCap
  | .capIn => BitVec.ofNat 64 (min s.inst.inCap (2 ^ 64 - 1))
  | .capCtx => BitVec.ofNat 64 s.nCtx
  | .capFeat => featureWord s.inst

/-- What a write of a register other than `CMD` does while the block is idle (R28, R29 items 1 and 3, R30): a write to a
read-only register changes nothing. -/
def csrStore (s : State) (q : Csr) (v : Word) : State :=
  match q with
  | .argSeed => { s with argSeed := v }
  | .argMapbits => { s with argMapbits := v }
  | .argHashsize => { s with argHashsize := v }
  | .argPasses => { s with argPasses := v }
  | .len => { s with len := v }
  | .plen => { s with plen := v }
  | .nbatch => { s with nbatch := v }
  | .ctxsel => { s with ctxsel := v }
  | .waddr => { s with waddr := v }
  | .as => wordWrite s fun c => { c with as := v }
  | .s1 => wordWrite s fun c => { c with s1 := v }
  | .s2 => wordWrite s fun c => { c with s2 := v }
  | .s3 => wordWrite s fun c => { c with s3 := v }
  | .hsData => (s.writeLane s.ctxsel.toNat s.waddr.toNat v).getD s
  | .inData => byteWindowWrite s (.inp s.ctxsel.toNat) v
  | .pfxData => byteWindowWrite s .pfx v
  | .cmd => s
  | .status => s
  | .seed => s
  | .mapSizeBits => s
  | .hashSize => s
  | .passes => s
  | .mapSize => s
  | .mk => s
  | .bmData => s
  | .outData => s
  | .capBm => s
  | .capHs => s
  | .capIn => s
  | .capCtx => s
  | .capFeat => s

/-- A host write of a register other than `CMD`: nothing while busy (R29 item 2), nothing for a reserved number (item 1). -/
def registerWrite (s : State) (number : BitVec 8) (v : Word) : State :=
  if s.status.busy then s
  else match csrOf number with
    | some q => csrStore s q v
    | none => s

/-- A host read: `STATUS` always reads its true value; while busy any other read returns a free value, a fresh one each time
(R29 item 2, U3, log 6, log 19); a reserved number reads zero (item 1). Nothing but the model's own record of the value
changes (item 4). -/
def hostRead (s : State) (number : BitVec 8) : State :=
  if csrOf number = some .status then { s with rdata := statusWord s.status }
  else if s.status.busy then { s with rdata := Config.busyRead s.freeReads, freeReads := s.freeReads + 1 }
  else { s with rdata := ((csrOf number).map (csrRead s)).getD 0 }

end Sys2Proof.Machine
end

