-- ==== Sys2Proof/Machine/Operands.lean ====
section
/-! DEFINITION. How each operand is formed (30_encoding.md R95): the ByteMap probe (41_lookup_and_rotation.md R140), the lane,
the input byte, the rotation (R142), and the shapes of micro-operation that share them. -/

namespace Sys2Proof.Machine

/-- The cell address of a probe: `v AND MK` (R61, R140). -/
def probeAddress (s : State) (v : Word) : Nat := (v &&& s.mask).toNat

/-- `B(v)`, one probe of the ByteMap (R140): `zext_64(MemRead(BM, v AND MK, 1))`. -/
def probe (s : State) (v : Word) : Option Word := (s.readByte .bm (probeAddress s v)).map zext64

/-- The lane `hs[idx]` of the current context (R150, R160). -/
def laneAtIdx (s : State) : Option Word := s.readLane s.kc.toNat s.idx.toNat

/-- The input byte of the current position for the current context (45_hash_sequencer.md R213, 46_optional_commands.md R237). -/
def inputByte (s : State) : Option Byte :=
  if s.cmd = 0x05 ∧ s.p.toNat < s.m.toNat then s.readByte .pfx s.p.toNat
  else if s.cmd = 0x05 then s.readByte (.inp s.kc.toNat) (s.p - s.m).toNat
  else s.readByte (.inp 0) s.p.toNat

/-- The shared state rotation `(s1, s2, s3) <- (s3, s1, s2)`, all three read before any is written (R142). -/
def rotate (c : Ctx) : Ctx := { c with s1 := c.s3, s2 := c.s1, s3 := c.s2 }

/-- A micro-operation that reads and writes running words of the current context and nothing else. -/
def wordLine (s : State) (write : Ctx → Ctx) (next : Instr) : Result :=
  withCtx s fun c => .next ((s.setCtx (write c)).goto next)

/-- A line of Step with one probe (43_step.md R161): `dst <- (src << a) XOR (src >> b) [XOR extra] XOR (B(index) << c)`. The
right-hand side is evaluated with the old words (00_scope.md R9). -/
def probeLine (s : State) (index : Ctx → Word) (write : Ctx → Word → Ctx) (next : Instr) : Result :=
  withCtx s fun c => orFault (probe s (index c)) fun b => .next ((s.setCtx (write c b)).goto next)

/-- A line that reads the lane `hs[idx]` and writes running words. -/
def laneLine (s : State) (write : Ctx → Word → Ctx) (next : Instr) : Result :=
  withCtx s fun c => orFault (laneAtIdx s) fun h => .next ((s.setCtx (write c h)).goto next)

/-- A line that reads the lane, makes one probe and writes running words. -/
def laneProbeLine (s : State) (index : Ctx → Word → Word) (write : Ctx → Word → Word → Ctx) (next : Instr) : Result :=
  withCtx s fun c => orFault (laneAtIdx s) fun h => orFault (probe s (index c h)) fun b =>
    .next ((s.setCtx (write c h b)).goto next)

/-- Write the lane `hs[idx]` of the current context. -/
def storeLane (s : State) (v : Word) (next : Instr) : Result :=
  orFault (s.writeLane s.kc.toNat s.idx.toNat v) fun t => .next (t.goto next)

end Sys2Proof.Machine
end

