-- ==== Sys2Proof/Machine/Builder.lean ====
section
/-! DEFINITION. The ByteMap builder: the micro-operations of INIT (40_bytemap_builder.md R121, R124, R127) and the stepping
function (R125, R126). -/

namespace Sys2Proof.Machine

/-- `SHUF_F_DEFAULT` (R126): the new rolling state and the partner index. -/
def shufFDefault (r i ps : Word) (bm : Word → Byte) (mk : Word) : Word × Word :=
  let t := zext64 (bm ((r ^^^ i) &&& mk))
  let r1 := rotl64 r 9 ^^^ (r >>> 5) ^^^ (t <<< 3) ^^^ (t <<< 29) ^^^ (t <<< 51) ^^^ i ^^^ rotl64 ps 40
  let u := zext64 (bm ((r1 >>> 13) &&& mk))
  let r2 := rotl64 r1 23 ^^^ (r1 >>> 11) ^^^ (u <<< 7) ^^^ (u <<< 37)
  (r2, r2 &&& mk)

/-- `SHUF_F` of the instance (R125). Any choice but the default is a free function that sees the table at addresses `≤ MK`
alone and whose index is taken modulo the table size, as the contract asks (log 3). -/
def shufF (c : ShufChoice) (r i ps : Word) (bm : Word → Byte) (mk : Word) : Word × Word :=
  match c with
  | .dflt => shufFDefault r i ps bm mk
  | .other =>
    let q := Config.shufOther r i ps (fun a => bm (a &&& mk)) mk
    (q.1, q.2 &&& mk)

/-- The causes of R252, in the order of R254; all comparisons unsigned on the full 64-bit values. -/
def checkError (s : State) : Option BlockError :=
  firstError
    [ (decide (s.cHsz = 0), .hashsizeZero),
      (decide (s.cMb.toNat < 8) || decide (34 < s.cMb.toNat), .mapbitsRange),
      (decide (s.inst.hsCap < s.cHsz.toNat), .hashsizeCap),
      (decide (s.inst.bmCapBits < s.cMb.toNat), .allocationFailure) ]

/-- The first assignments of CHECK (R121): unconfigured, the six configuration registers 0. -/
def unconfigure (s : State) : State :=
  { s with
    status := statusUnconfigured s.status
    seed := 0, mapSizeBits := 0, hashSize := 0, passes := 0, mapSize := 0, mask := 0 }

/-- `1 << mb` (R121). -/
def mapSizeOf (mb : Word) : Word := (1 : Word) <<< mb.toNat

/-- `CHECK` (R121): validate, latch the configuration, start the builder; or `raise`. -/
def execCheck (s : State) : Result :=
  match checkError s with
  | some e => .next (raise e (unconfigure s))
  | none =>
    .next (({ unconfigure s with
      seed := s.cSeed, mapSizeBits := s.cMb, hashSize := s.cHsz, passes := s.cPas
      mapSize := mapSizeOf s.cMb, mask := mapSizeOf s.cMb - 1
      r := s.cSeed, i := 0, ps := 0 }).goto .fill)

/-- `FILL` (R124): `BM[i] <- i mod 256`, the next position, then SHUF or the end of INIT (R122). -/
def execFill (s : State) : Result :=
  orFault (s.writeByte .bm s.i.toNat (trunc8 s.i)) fun t =>
    if (s.i + 1).toNat < s.mapSize.toNat then .next (({ t with i := s.i + 1 }).goto .fill)
    else if s.passes = 0 then .next (endInit { t with i := 0 })
    else .next (({ t with i := 0 }).goto .shuf)

/-- Exchange the cells `i` and `j` of the table: both reads before either write (R127). -/
def exchange (s : State) (i j : Nat) (f : State → Result) : Result :=
  orFault (s.readByte .bm i) fun x => orFault (s.readByte .bm j) fun y =>
    orFault (s.writeByte .bm i y) fun t => orFault (t.writeByte .bm j x) f

/-- The counters and the end of INIT after one shuffle step (R127). -/
def shufNext (s : State) : State :=
  let wrap := s.i + 1 = s.mapSize
  let t : State := { s with i := if wrap then 0 else s.i + 1, ps := if wrap then s.ps + 1 else s.ps }
  if t.ps = t.passes then endInit t else t.goto .shuf

/-- `SHUF` (R127): one shuffle step, the cells that `SHUF_F` may read being those at addresses `≤ MK` (R125). -/
def execShuf (s : State) : Result :=
  if s.mask.toNat < 2 ^ s.inst.bmCapBits then
    let q := shufF s.inst.shuf s.r s.i s.ps (fun a => s.peekByte .bm a.toNat) s.mask
    exchange s s.i.toNat q.2.toNat fun t => .next (shufNext { t with r := q.1, j := q.2 })
  else .fault .absentCell

end Sys2Proof.Machine
end

