-- ==== Sys2Proof/Machine/Command.lean ====
section
/-! DEFINITION. The five commands. A command's own meaning is its acceptance (30_encoding.md R92): everything after it is the
micro-operations it starts. The checks are those of 60_exceptions.md R253, in its order (R254). -/

namespace Sys2Proof.Machine

/-- `INIT` (40_bytemap_builder.md R120): no check at acceptance; CONFIGURED is cleared (R27, R92, log 14); the four arguments
are copied for CHECK (R121). -/
def execInit (s : State) : Result :=
  acceptance s 0x01 none
    (fun t => { t with
      status := statusUnconfigured t.status
      cSeed := t.argSeed, cMb := t.argMapbits, cHsz := t.argHashsize, cPas := t.argPasses })
    .check

/-- The checks of `HASH` (R253): configured; `LEN ≤ IN_CAP`. -/
def hashError (s : State) : Option BlockError :=
  firstError
    [ (!s.status.configured, .notConfigured),
      (decide (s.inst.inCap < s.len.toNat), .badLength) ]

/-- `HASH` (45_hash_sequencer.md R210). -/
def execHash (s : State) : Result :=
  acceptance s 0x02 (hashError s) (fun t => { t with n := t.len, m := 0, nb := 1 }) .hinit

/-- The checks of `PREHASH` (R253): present; configured; `PLEN ≤ IN_CAP`. -/
def prehashError (s : State) : Option BlockError :=
  firstError
    [ (!s.inst.hasSplit, .badOpcode),
      (!s.status.configured, .notConfigured),
      (decide (s.inst.inCap < s.plen.toNat), .badLength) ]

/-- `PREHASH` (46_optional_commands.md R230). -/
def execPrehash (s : State) : Result :=
  acceptance s 0x03 (prehashError s) (fun t => { t with n := t.plen, m := 0, nb := 1 }) .hinit

/-- The checks of `POSTHASH` (R253): present; configured; `LEN ≤ IN_CAP` and `PLEN ≤ LEN`. -/
def posthashError (s : State) : Option BlockError :=
  firstError
    [ (!s.inst.hasSplit, .badOpcode),
      (!s.status.configured, .notConfigured),
      (decide (s.inst.inCap < s.len.toNat) || decide (s.len.toNat < s.plen.toNat), .badLength) ]

/-- `POSTHASH` (46_optional_commands.md R233): it starts at RESUME and keeps the mix state. -/
def execPosthash (s : State) : Result :=
  acceptance s 0x04 (posthashError s) (fun t => { t with n := t.len, m := t.plen, nb := 1 }) .resume

/-- The checks of `HASHBATCH` (R253): present; configured; both lengths within the buffers and their sum below 2^64;
`1 ≤ NBATCH ≤ N_CTX`. -/
def hashbatchError (s : State) : Option BlockError :=
  firstError
    [ (!s.inst.hasBatch, .badOpcode),
      (!s.status.configured, .notConfigured),
      (decide (s.inst.inCap < s.len.toNat) || decide (s.inst.inCap < s.plen.toNat)
        || decide (2 ^ 64 ≤ s.plen.toNat + s.len.toNat), .badLength),
      (decide (s.nbatch = 0) || decide (s.nCtx < s.nbatch.toNat), .badBatch) ]

/-- `HASHBATCH` (46_optional_commands.md R235). -/
def execHashbatch (s : State) : Result :=
  acceptance s 0x05 (hashbatchError s) (fun t => { t with n := t.plen + t.len, m := t.plen, nb := t.nbatch }) .hinit

/-- A command word that is no command (30_encoding.md R94): accepted while idle, and then `raise IllegalCommand(BAD_OPCODE)`;
ignored while busy (R92). -/
def rejectCommand (s : State) : State := if s.status.busy then s else raise .badOpcode (accepted s)

end Sys2Proof.Machine
end

