-- ==== Sys2Proof/Machine/Sequencer.lean ====
section
/-! DEFINITION. The hash sequencer: HINIT, LDIN, ADV (45_hash_sequencer.md R211, R213, R214), RESUME
(46_optional_commands.md R232) and the control transfers of R212. -/

namespace Sys2Proof.Machine

/-- `DECIDE` (R212): the shared tail of HINIT, RESUME and ADV. -/
def decideNext (s : State) : State :=
  if s.p.toNat < s.n.toNat then s.goto .ldin
  else if s.ph = 1 ∧ s.cmd = 0x03 then endHash s
  else if s.ph = 1 ∧ 0 < s.n.toNat then ({ s with ph := 2, p := 0, idx := 0 }).goto .ldin
  else ({ s with ph := 3, i := s.hashSize - 1 }).goto .redLoad

/-- After a rotation in passes 1 and 2 (R212): the next context's LDIN, or ADV after the last one. -/
def nextContext (s : State) : State :=
  if s.kc.toNat + 1 < s.nb.toNat then ({ s with kc := s.kc + 1 }).goto .ldin
  else ({ s with kc := 0 }).goto .adv

/-- After `ST.ROT` (R212): RED.EMIT in pass 3, else as after FS.ROT (log 15 for values of `ph` the table leaves out). -/
def afterStep (s : State) : State := if s.ph = 3 then s.goto .redEmit else nextContext s

/-- After `RED.EMIT` (R212): the next context, the next lane downwards, or the end. The test on `i` is before the decrement
(44_reduction.md R202). -/
def afterEmit (s : State) : State :=
  if s.kc.toNat + 1 < s.nb.toNat then ({ s with kc := s.kc + 1 }).goto .redLoad
  else if 0 < s.i.toNat then ({ s with kc := 0, i := s.i - 1 }).goto .redLoad
  else endHash { s with kc := 0 }

/-- Clear lanes 0..`count`−1 (R211). -/
def clearLanes : Nat → List (Nat × Word) → List (Nat × Word)
  | 0, m => m
  | q + 1, m => clearLanes q (cellPut q 0 m)

/-- HINIT's work on one context (R211): `as = Seed`, the other words 0, the lanes in use 0. -/
def initialContext (seed : Word) (lanes : Nat) (c : Ctx) : Ctx :=
  { c with as := seed, s1 := 0, s2 := 0, s3 := 0, hs := clearLanes lanes c.hs }

/-- `HINIT` (R211): contexts 0..`nb`−1 get the initial mix state; then `DECIDE`. -/
def execHinit (s : State) : Result :=
  if s.nb.toNat ≤ s.nCtx then
    if s.hashSize.toNat ≤ s.inst.hsCap then
      .next (decideNext { s with
        ctxs := (s.ctxs.take s.nb.toNat).map (initialContext s.seed s.hashSize.toNat) ++ s.ctxs.drop s.nb.toNat
        p := 0, idx := 0, kc := 0, ph := 1 })
    else .fault .absentCell
  else .fault .absentContext

/-- `LDIN` (R213): the input byte, zero-extended, into `v2`; then FS.B in pass 1, ST.L01 in pass 2. -/
def execLdin (s : State) : Result :=
  orFault (inputByte s) fun b =>
    let t : State := { s with v2 := zext64 b }
    .next (if s.ph = 1 then t.goto .fsB else t.goto .stL01)

/-- `ADV` (R214): the next position, `idx` back to 0 at `HASHSIZE`; then `DECIDE`. -/
def execAdv (s : State) : Result :=
  .next (decideNext { s with p := s.p + 1, idx := if s.idx + 1 = s.hashSize then 0 else s.idx + 1 })

/-- `RESUME` (R232): `p <- m; idx <- m mod HASHSIZE`, the mix state kept; then `DECIDE`. -/
def execResume (s : State) : Result :=
  .next (decideNext { s with p := s.m, idx := s.m % s.hashSize, kc := 0, ph := 1 })

end Sys2Proof.Machine
end

