-- ==== Sys2Proof/Machine/FastStep.lean ====
section
/-! DEFINITION. FastStep, the priming pass (42_faststep.md R150 to R155). -/

namespace Sys2Proof.Machine

/-- `FS.B` (R151): `b = B(as XOR v2)`, into the latch `bt`. -/
def execFsB (s : State) : Result :=
  withCtx s fun c => orFault (probe s (c.as ^^^ s.v2)) fun b => .next (({ s with bt := b }).goto .fsAs)

/-- `FS.AS` (R152). -/
def execFsAs (s : State) : Result :=
  wordLine s
    (fun c => { c with
      as := (c.as <<< 7) ^^^ (c.as >>> 5) ^^^ (s.v2 <<< 20) ^^^ (s.v2 <<< 16) ^^^ s.v2
        ^^^ (s.bt <<< 20) ^^^ (s.bt <<< 12) ^^^ (s.bt <<< 4) })
    .fsS1

/-- `FS.S1` (R153): `s1 = (s1<<9) XOR (s1>>3) XOR hs[idx]`. -/
def execFsS1 (s : State) : Result :=
  laneLine s (fun c h => { c with s1 := (c.s1 <<< 9) ^^^ (c.s1 >>> 3) ^^^ h }) .fsHs

/-- `FS.HS` (R154): `hs[idx] = s1 XOR as`. -/
def execFsHs (s : State) : Result := withCtx s fun c => storeLane s (c.s1 ^^^ c.as) .fsRot

/-- `FS.ROT` (R142, R155): the rotation, then the next context's LDIN or ADV (45_hash_sequencer.md R212). -/
def execFsRot (s : State) : Result := withCtx s fun c => .next (nextContext (s.setCtx (rotate c)))

end Sys2Proof.Machine
end

