-- ==== Sys2Proof/Machine/Mix.lean ====
section
/-! DEFINITION. Step, the main mixing schedule: the 27 lines of the listing of 43_step.md R160, which "MUST be reproduced
bit-exactly", one definition each (R162 to R188), and the rotation that ends it (R142, R189). -/

namespace Sys2Proof.Machine

/-- `ST.L01` (R162): `s1 = s1<<9 ^ s1>>1 ^ as ^ B(as>>5 ^ v2) <<3`. -/
def execStL01 (s : State) : Result :=
  probeLine s (fun c => (c.as >>> 5) ^^^ s.v2)
    (fun c b => { c with s1 := (c.s1 <<< 9) ^^^ (c.s1 >>> 1) ^^^ c.as ^^^ (b <<< 3) }) .stL02

/-- `ST.L02` (R163): `s1 = s1<<5 ^ s1>>3 ^ B(s1 ^ v2) <<7`. -/
def execStL02 (s : State) : Result :=
  probeLine s (fun c => c.s1 ^^^ s.v2)
    (fun c b => { c with s1 := (c.s1 <<< 5) ^^^ (c.s1 >>> 3) ^^^ (b <<< 7) }) .stL03

/-- `ST.L03` (R164): `s1 = s1<<7 ^ s1>>7 ^ B(as ^ s1>>7) <<5`. -/
def execStL03 (s : State) : Result :=
  probeLine s (fun c => c.as ^^^ (c.s1 >>> 7))
    (fun c b => { c with s1 := (c.s1 <<< 7) ^^^ (c.s1 >>> 7) ^^^ (b <<< 5) }) .stL04

/-- `ST.L04` (R165): `s1 = s1<<11 ^ s1>>5 ^ B(v2 ^ as>>11 ^ s1) <<27`. -/
def execStL04 (s : State) : Result :=
  probeLine s (fun c => s.v2 ^^^ (c.as >>> 11) ^^^ c.s1)
    (fun c b => { c with s1 := (c.s1 <<< 11) ^^^ (c.s1 >>> 5) ^^^ (b <<< 27) }) .stL05

/-- `ST.L05` (R166): `hs[idx] = s1 ^ as ^ hs[idx]<<7 ^ hs[idx]>>13`. -/
def execStL05 (s : State) : Result :=
  withCtx s fun c => orFault (laneAtIdx s) fun h =>
    storeLane s (c.s1 ^^^ c.as ^^^ (h <<< 7) ^^^ (h >>> 13)) .stL06

/-- `ST.L06` (R167): `as = as<<17 ^ as>>5 ^ s1 ^ B(as ^ s1>>27 ^ v2) <<3`. -/
def execStL06 (s : State) : Result :=
  probeLine s (fun c => c.as ^^^ (c.s1 >>> 27) ^^^ s.v2)
    (fun c b => { c with as := (c.as <<< 17) ^^^ (c.as >>> 5) ^^^ c.s1 ^^^ (b <<< 3) }) .stL07

/-- `ST.L07` (R168): `as = as<<13 ^ as>>3 ^ B(as ^ s1) <<7`. -/
def execStL07 (s : State) : Result :=
  probeLine s (fun c => c.as ^^^ c.s1)
    (fun c b => { c with as := (c.as <<< 13) ^^^ (c.as >>> 3) ^^^ (b <<< 7) }) .stL08

/-- `ST.L08` (R169): `as = as<<15 ^ as>>7 ^ B(as>>7 ^ s1) <<11`. -/
def execStL08 (s : State) : Result :=
  probeLine s (fun c => (c.as >>> 7) ^^^ c.s1)
    (fun c b => { c with as := (c.as <<< 15) ^^^ (c.as >>> 7) ^^^ (b <<< 11) }) .stL09

/-- `ST.L09` (R170): `as = as<<9 ^ as>>11 ^ B(v2 ^ as ^ s1) <<3`. -/
def execStL09 (s : State) : Result :=
  probeLine s (fun c => s.v2 ^^^ c.as ^^^ c.s1)
    (fun c b => { c with as := (c.as <<< 9) ^^^ (c.as >>> 11) ^^^ (b <<< 3) }) .stL10

/-- `ST.L10` (R171): `s1 = s1<<7 ^ s1>>27 ^ as ^ B(as>>3) <<13`. -/
def execStL10 (s : State) : Result :=
  probeLine s (fun c => (c.as >>> 3))
    (fun c b => { c with s1 := (c.s1 <<< 7) ^^^ (c.s1 >>> 27) ^^^ c.as ^^^ (b <<< 13) }) .stL11

/-- `ST.L11` (R172): `s1 = s1<<3 ^ s1>>13 ^ B(s1 ^ v2) <<11`. -/
def execStL11 (s : State) : Result :=
  probeLine s (fun c => c.s1 ^^^ s.v2)
    (fun c b => { c with s1 := (c.s1 <<< 3) ^^^ (c.s1 >>> 13) ^^^ (b <<< 11) }) .stL12

/-- `ST.L12` (R173): `s1 = s1<<8 ^ s1>>11 ^ B(as ^ s1>>11) <<9`. -/
def execStL12 (s : State) : Result :=
  probeLine s (fun c => c.as ^^^ (c.s1 >>> 11))
    (fun c b => { c with s1 := (c.s1 <<< 8) ^^^ (c.s1 >>> 11) ^^^ (b <<< 9) }) .stL13

/-- `ST.L13` (R174): `s1 = s1<<6 ^ s1>>9 ^ B(v2 ^ as ^ s1) <<3`. -/
def execStL13 (s : State) : Result :=
  probeLine s (fun c => s.v2 ^^^ c.as ^^^ c.s1)
    (fun c b => { c with s1 := (c.s1 <<< 6) ^^^ (c.s1 >>> 9) ^^^ (b <<< 3) }) .stL14

/-- `ST.L14` (R175): `as = as<<23 ^ as>>3 ^ s1 ^ B(as ^ v2 ^ s1>>3) <<7`. -/
def execStL14 (s : State) : Result :=
  probeLine s (fun c => c.as ^^^ s.v2 ^^^ (c.s1 >>> 3))
    (fun c b => { c with as := (c.as <<< 23) ^^^ (c.as >>> 3) ^^^ c.s1 ^^^ (b <<< 7) }) .stL15

/-- `ST.L15` (R176): `as = as<<17 ^ as>>7 ^ B(as ^ s1>>3) <<5`. -/
def execStL15 (s : State) : Result :=
  probeLine s (fun c => c.as ^^^ (c.s1 >>> 3))
    (fun c b => { c with as := (c.as <<< 17) ^^^ (c.as >>> 7) ^^^ (b <<< 5) }) .stL16

/-- `ST.L16` (R177): `as = as<<13 ^ as>>5 ^ B(as>>5 ^ s1) <<1`. -/
def execStL16 (s : State) : Result :=
  probeLine s (fun c => (c.as >>> 5) ^^^ c.s1)
    (fun c b => { c with as := (c.as <<< 13) ^^^ (c.as >>> 5) ^^^ (b <<< 1) }) .stL17

/-- `ST.L17` (R178): `as = as<<11 ^ as>>1 ^ B(v2 ^ as ^ s1) <<7`. -/
def execStL17 (s : State) : Result :=
  probeLine s (fun c => s.v2 ^^^ c.as ^^^ c.s1)
    (fun c b => { c with as := (c.as <<< 11) ^^^ (c.as >>> 1) ^^^ (b <<< 7) }) .stL18

/-- `ST.L18` (R179): `s1 = s1<<5 ^ s1>>3 ^ as ^ B(as>>7 ^ s1>>3) <<6`. -/
def execStL18 (s : State) : Result :=
  probeLine s (fun c => (c.as >>> 7) ^^^ (c.s1 >>> 3))
    (fun c b => { c with s1 := (c.s1 <<< 5) ^^^ (c.s1 >>> 3) ^^^ c.as ^^^ (b <<< 6) }) .stL19

/-- `ST.L19` (R180): `s1 = s1<<8 ^ s1>>6 ^ B(s1 ^ v2) <<11`. -/
def execStL19 (s : State) : Result :=
  probeLine s (fun c => c.s1 ^^^ s.v2)
    (fun c b => { c with s1 := (c.s1 <<< 8) ^^^ (c.s1 >>> 6) ^^^ (b <<< 11) }) .stL20

/-- `ST.L20` (R181): `s1 = s1<<11 ^ s1>>11 ^ B(as ^ s1>>11) <<5`. -/
def execStL20 (s : State) : Result :=
  probeLine s (fun c => c.as ^^^ (c.s1 >>> 11))
    (fun c b => { c with s1 := (c.s1 <<< 11) ^^^ (c.s1 >>> 11) ^^^ (b <<< 5) }) .stL21

/-- `ST.L21` (R182): `s1 = s1<<7 ^ s1>>5 ^ B(v2 ^ as>>7 ^ as ^ s1) <<17`. -/
def execStL21 (s : State) : Result :=
  probeLine s (fun c => s.v2 ^^^ (c.as >>> 7) ^^^ c.as ^^^ c.s1)
    (fun c b => { c with s1 := (c.s1 <<< 7) ^^^ (c.s1 >>> 5) ^^^ (b <<< 17) }) .stL22

/-- `ST.L22` (R183): `s2 = s2<<3 ^ s2>>17 ^ s1 ^ B(as ^ s2>>5 ^ v2) <<13`. -/
def execStL22 (s : State) : Result :=
  probeLine s (fun c => c.as ^^^ (c.s2 >>> 5) ^^^ s.v2)
    (fun c b => { c with s2 := (c.s2 <<< 3) ^^^ (c.s2 >>> 17) ^^^ c.s1 ^^^ (b <<< 13) }) .stL23

/-- `ST.L23` (R184): `s2 = s2<<6 ^ s2>>13 ^ B(s2) <<11`. -/
def execStL23 (s : State) : Result :=
  probeLine s (fun c => c.s2)
    (fun c b => { c with s2 := (c.s2 <<< 6) ^^^ (c.s2 >>> 13) ^^^ (b <<< 11) }) .stL24

/-- `ST.L24` (R185): `s2 = s2<<11 ^ s2>>11 ^ B(as ^ s1 ^ s2>>11) <<23`. -/
def execStL24 (s : State) : Result :=
  probeLine s (fun c => c.as ^^^ c.s1 ^^^ (c.s2 >>> 11))
    (fun c b => { c with s2 := (c.s2 <<< 11) ^^^ (c.s2 >>> 11) ^^^ (b <<< 23) }) .stL25

/-- `ST.L25` (R186): `s2 = s2<<4 ^ s2>>23 ^ B(v2 ^ as>>8 ^ as ^ s2>>10) <<1`. -/
def execStL25 (s : State) : Result :=
  probeLine s (fun c => s.v2 ^^^ (c.as >>> 8) ^^^ c.as ^^^ (c.s2 >>> 10))
    (fun c b => { c with s2 := (c.s2 <<< 4) ^^^ (c.s2 >>> 23) ^^^ (b <<< 1) }) .stL26

/-- `ST.L26` (R187): `s1 = s2<<3 ^ s2>>1 ^ hs[idx] ^ v2`. -/
def execStL26 (s : State) : Result :=
  laneLine s (fun c h => { c with s1 := (c.s2 <<< 3) ^^^ (c.s2 >>> 1) ^^^ h ^^^ s.v2 }) .stL27

/-- `ST.L27` (R188): `as = as<<9 ^ as>>7 ^ s1>>1 ^ B(s2>>1 ^ hs[idx]) <<5`. -/
def execStL27 (s : State) : Result :=
  laneProbeLine s (fun c h => (c.s2 >>> 1) ^^^ h)
    (fun c _ b => { c with as := (c.as <<< 9) ^^^ (c.as >>> 7) ^^^ (c.s1 >>> 1) ^^^ (b <<< 5) }) .stRot

/-- `ST.ROT` (R142, R189): the rotation, then R212's successor. -/
def execStRot (s : State) : Result := withCtx s fun c => .next (afterStep (s.setCtx (rotate c)))

end Sys2Proof.Machine
end

