-- ==== Sys2Proof/Machine/Reduction.lean ====
section
/-! DEFINITION. The reduction pass and the digest emit (44_reduction.md R201, R202). -/

namespace Sys2Proof.Machine

/-- `RED.LOAD` (R201): `v2` is a copy of the whole lane, taken before the Step starts; `idx <- i`. -/
def execRedLoad (s : State) : Result :=
  orFault (s.readLane s.kc.toNat s.i.toNat) fun h => .next (({ s with v2 := h, idx := s.i }).goto .stL01)

/-- `RED.EMIT` (R202): `OUT[i] <- byte(B(as)) XOR byte(B(hs[i]))`, then R212's successor. -/
def execRedEmit (s : State) : Result :=
  withCtx s fun c => orFault (probe s c.as) fun e1 =>
    orFault (s.readLane s.kc.toNat s.i.toNat) fun h => orFault (probe s h) fun e2 =>
      orFault (s.writeByte (.out s.kc.toNat) s.i.toNat (trunc8 e1 ^^^ trunc8 e2)) fun t => .next (afterEmit t)

end Sys2Proof.Machine
end

