-- ==== Sys2Proof/Machine/Dispatch.lean ====
section
/-! DEFINITION. One arm per operation, each a direct call of its meaning. -/

namespace Sys2Proof.Machine

def exec (i : Instr) (s : State) : Host.Outcome State Fault Refusal :=
  match i with
  | .init => Sys2Proof.Machine.execInit s
  | .hash => Sys2Proof.Machine.execHash s
  | .prehash => Sys2Proof.Machine.execPrehash s
  | .posthash => Sys2Proof.Machine.execPosthash s
  | .hashbatch => Sys2Proof.Machine.execHashbatch s
  | .check => Sys2Proof.Machine.execCheck s
  | .fill => Sys2Proof.Machine.execFill s
  | .shuf => Sys2Proof.Machine.execShuf s
  | .fsB => Sys2Proof.Machine.execFsB s
  | .fsAs => Sys2Proof.Machine.execFsAs s
  | .fsS1 => Sys2Proof.Machine.execFsS1 s
  | .fsHs => Sys2Proof.Machine.execFsHs s
  | .fsRot => Sys2Proof.Machine.execFsRot s
  | .stL01 => Sys2Proof.Machine.execStL01 s
  | .stL02 => Sys2Proof.Machine.execStL02 s
  | .stL03 => Sys2Proof.Machine.execStL03 s
  | .stL04 => Sys2Proof.Machine.execStL04 s
  | .stL05 => Sys2Proof.Machine.execStL05 s
  | .stL06 => Sys2Proof.Machine.execStL06 s
  | .stL07 => Sys2Proof.Machine.execStL07 s
  | .stL08 => Sys2Proof.Machine.execStL08 s
  | .stL09 => Sys2Proof.Machine.execStL09 s
  | .stL10 => Sys2Proof.Machine.execStL10 s
  | .stL11 => Sys2Proof.Machine.execStL11 s
  | .stL12 => Sys2Proof.Machine.execStL12 s
  | .stL13 => Sys2Proof.Machine.execStL13 s
  | .stL14 => Sys2Proof.Machine.execStL14 s
  | .stL15 => Sys2Proof.Machine.execStL15 s
  | .stL16 => Sys2Proof.Machine.execStL16 s
  | .stL17 => Sys2Proof.Machine.execStL17 s
  | .stL18 => Sys2Proof.Machine.execStL18 s
  | .stL19 => Sys2Proof.Machine.execStL19 s
  | .stL20 => Sys2Proof.Machine.execStL20 s
  | .stL21 => Sys2Proof.Machine.execStL21 s
  | .stL22 => Sys2Proof.Machine.execStL22 s
  | .stL23 => Sys2Proof.Machine.execStL23 s
  | .stL24 => Sys2Proof.Machine.execStL24 s
  | .stL25 => Sys2Proof.Machine.execStL25 s
  | .stL26 => Sys2Proof.Machine.execStL26 s
  | .stL27 => Sys2Proof.Machine.execStL27 s
  | .stRot => Sys2Proof.Machine.execStRot s
  | .redLoad => Sys2Proof.Machine.execRedLoad s
  | .redEmit => Sys2Proof.Machine.execRedEmit s
  | .hinit => Sys2Proof.Machine.execHinit s
  | .ldin => Sys2Proof.Machine.execLdin s
  | .adv => Sys2Proof.Machine.execAdv s
  | .resume => Sys2Proof.Machine.execResume s

end Sys2Proof.Machine
end

