-- ==== Sys2Proof/Machine/Port.lean ====
section
/-! DEFINITION. What happens in one slot: a host access (30_encoding.md R97), or one micro-operation of the block (R93).
Ownership is by phase (20_memory.md R68). -/

namespace Sys2Proof.Machine

/-- A write of `CMD` (R92, R94): one of the five commands, or an illegal word. -/
def commandWrite (s : State) (w : Word) : Result :=
  match decodeCommand w with
  | .ok i => exec i s
  | .error _ => .next (rejectCommand s)

/-- A host write (R28): the write of `CMD` is the only one with an effect beyond storing its value (R29 item 4). -/
def hostWrite (s : State) (number : BitVec 8) (v : Word) : Result :=
  if csrOf number = some .cmd then commandWrite s v else .next (registerWrite s number v)

/-- The block's part of a slot: the micro-operation at `upc` (R93); an idle block does nothing and changes no state
(60_exceptions.md R267). -/
def uopStep (s : State) : Result :=
  match decodeUop s.upc with
  | .ok i => exec i s
  | .error .idle => .next s
  | .error _ => .refused (.unusedMicroAddress s.upc)

/-- `WAIT` (R97) in one slot: `STATUS` is read; while busy the block goes on and the host waits on. -/
def waitSlot (s : State) (rest : List HostEvent) : Result :=
  if s.status.busy then uopStep { s with rdata := statusWord s.status }
  else .next { s with rdata := statusWord s.status, host := rest }

/-- One slot. -/
def slot (s : State) : Result :=
  match s.host with
  | [] => uopStep s
  | .quiet :: rest => uopStep { s with host := rest }
  | .wait :: rest => waitSlot s rest
  | .rd number :: rest => .next (hostRead { s with host := rest } number)
  | .wr number v :: rest => hostWrite { s with host := rest } number v
  | .reset :: rest => .next (resetEvent { s with host := rest })

/-- Place a micro-address where the block takes its next micro-operation from, in a slot the host leaves to it (log 10). -/
def placeUop (s : State) (a : BitVec 8) : State := { s with upc := a, host := .quiet :: s.host }

/-- Let the host's next act be the write of a command word, the block idle so that the write is accepted (log 10). -/
def placeCommand (s : State) (w : Word) : State :=
  { s with host := .wr 0x00 w :: s.host, status := { s.status with busy := false } }

end Sys2Proof.Machine
end

