-- ==== Sys2Proof/Machine/Step.lean ====
section
/-! DEFINITION. The step of the machine and the place its next operation is taken from. -/

namespace Sys2Proof.Machine

/-- One step of the machine: one slot (log 7). -/
def step (s : State) : Host.Outcome State Fault Refusal := slot s

/-- The state with one operation of the opcode table placed where the next step takes it (log 10): a row of 8 bits in `upc`,
any other as the command word the host writes next. -/
def State.withFetchWord (s : State) (nbits w : Nat) : State :=
  if nbits = 8 then placeUop s (BitVec.ofNat 8 w) else placeCommand s (BitVec.ofNat 64 w)

end Sys2Proof.Machine
end

