-- ==== Sys2Proof/Machine/Function.lean ====
section
/-! DEFINITION. The computation as functions of values (00_scope.md R10, R11): FastStep (42_faststep.md R150, R156), Step
(43_step.md R160, R190), the three passes and the digest (45_hash_sequencer.md R210, 44_reduction.md R200), for any table
`B` of R140. The micro-operations are not defined by these functions; statements compare the two. -/

namespace Sys2Proof.Machine

/-- The words FastStep and Step work on: the running words and the lane `hs[idx]` (R156, R190). -/
structure Mix where
  as : Word
  s1 : Word
  s2 : Word
  s3 : Word
  lane : Word
  deriving DecidableEq, Repr

/-- FastStep (R150), the document's listing. -/
def fastStepFn (B : Word → Word) (v2 : Word) (x : Mix) : Mix :=
  let b := B (x.as ^^^ v2)
  let as := (x.as <<< 7) ^^^ (x.as >>> 5) ^^^ (v2 <<< 20) ^^^ (v2 <<< 16) ^^^ v2 ^^^ (b <<< 20) ^^^ (b <<< 12) ^^^ (b <<< 4)
  let s1 := (x.s1 <<< 9) ^^^ (x.s1 >>> 3) ^^^ x.lane
  { as := as, s1 := x.s3, s2 := s1, s3 := x.s2, lane := s1 ^^^ as }

/-- Step (R160), the document's listing: each line reads the values left by the lines before it (R9). -/
def stepFn (B : Word → Word) (v2 : Word) (x : Mix) : Mix :=
  let as := x.as
  let s1 := x.s1
  let s2 := x.s2
  let s1 := s1 <<< 9 ^^^ s1 >>> 1 ^^^ as ^^^ B (as >>> 5 ^^^ v2) <<< 3
  let s1 := s1 <<< 5 ^^^ s1 >>> 3 ^^^ B (s1 ^^^ v2) <<< 7
  let s1 := s1 <<< 7 ^^^ s1 >>> 7 ^^^ B (as ^^^ s1 >>> 7) <<< 5
  let s1 := s1 <<< 11 ^^^ s1 >>> 5 ^^^ B (v2 ^^^ as >>> 11 ^^^ s1) <<< 27
  let lane := s1 ^^^ as ^^^ x.lane <<< 7 ^^^ x.lane >>> 13
  let as := as <<< 17 ^^^ as >>> 5 ^^^ s1 ^^^ B (as ^^^ s1 >>> 27 ^^^ v2) <<< 3
  let as := as <<< 13 ^^^ as >>> 3 ^^^ B (as ^^^ s1) <<< 7
  let as := as <<< 15 ^^^ as >>> 7 ^^^ B (as >>> 7 ^^^ s1) <<< 11
  let as := as <<< 9 ^^^ as >>> 11 ^^^ B (v2 ^^^ as ^^^ s1) <<< 3
  let s1 := s1 <<< 7 ^^^ s1 >>> 27 ^^^ as ^^^ B (as >>> 3) <<< 13
  let s1 := s1 <<< 3 ^^^ s1 >>> 13 ^^^ B (s1 ^^^ v2) <<< 11
  let s1 := s1 <<< 8 ^^^ s1 >>> 11 ^^^ B (as ^^^ s1 >>> 11) <<< 9
  let s1 := s1 <<< 6 ^^^ s1 >>> 9 ^^^ B (v2 ^^^ as ^^^ s1) <<< 3
  let as := as <<< 23 ^^^ as >>> 3 ^^^ s1 ^^^ B (as ^^^ v2 ^^^ s1 >>> 3) <<< 7
  let as := as <<< 17 ^^^ as >>> 7 ^^^ B (as ^^^ s1 >>> 3) <<< 5
  let as := as <<< 13 ^^^ as >>> 5 ^^^ B (as >>> 5 ^^^ s1) <<< 1
  let as := as <<< 11 ^^^ as >>> 1 ^^^ B (v2 ^^^ as ^^^ s1) <<< 7
  let s1 := s1 <<< 5 ^^^ s1 >>> 3 ^^^ as ^^^ B (as >>> 7 ^^^ s1 >>> 3) <<< 6
  let s1 := s1 <<< 8 ^^^ s1 >>> 6 ^^^ B (s1 ^^^ v2) <<< 11
  let s1 := s1 <<< 11 ^^^ s1 >>> 11 ^^^ B (as ^^^ s1 >>> 11) <<< 5
  let s1 := s1 <<< 7 ^^^ s1 >>> 5 ^^^ B (v2 ^^^ as >>> 7 ^^^ as ^^^ s1) <<< 17
  let s2 := s2 <<< 3 ^^^ s2 >>> 17 ^^^ s1 ^^^ B (as ^^^ s2 >>> 5 ^^^ v2) <<< 13
  let s2 := s2 <<< 6 ^^^ s2 >>> 13 ^^^ B s2 <<< 11
  let s2 := s2 <<< 11 ^^^ s2 >>> 11 ^^^ B (as ^^^ s1 ^^^ s2 >>> 11) <<< 23
  let s2 := s2 <<< 4 ^^^ s2 >>> 23 ^^^ B (v2 ^^^ as >>> 8 ^^^ as ^^^ s2 >>> 10) <<< 1
  let s1 := s2 <<< 3 ^^^ s2 >>> 1 ^^^ lane ^^^ v2
  let as := as <<< 9 ^^^ as >>> 7 ^^^ s1 >>> 1 ^^^ B (s2 >>> 1 ^^^ lane) <<< 5
  { as := as, s1 := x.s3, s2 := s1, s3 := s2, lane := lane }

/-- The mix state of one hash: the running words and the lanes `hs[0..HashSize)`. -/
structure Mixer where
  as : Word
  s1 : Word
  s2 : Word
  s3 : Word
  lanes : List Word
  deriving DecidableEq, Repr

/-- FastStep or Step on lane `q`. -/
def Mixer.advance (f : Mix → Mix) (q : Nat) (x : Mixer) : Mixer :=
  let y := f { as := x.as, s1 := x.s1, s2 := x.s2, s3 := x.s3, lane := x.lanes.getD q 0 }
  { as := y.as, s1 := y.s1, s2 := y.s2, s3 := y.s3, lanes := x.lanes.set q y.lane }

/-- "as = Seed, others = 0", the lanes zero (45_hash_sequencer.md R211). -/
def Mixer.initial (seed : Word) (hashSize : Nat) : Mixer where
  as := seed
  s1 := 0
  s2 := 0
  s3 := 0
  lanes := List.replicate hashSize 0

/-- One pass over input bytes from position `p` on, lane `p mod HashSize` at position `p` (R150, R160). -/
def Mixer.pass (f : Word → Mix → Mix) (hashSize : Nat) : Nat → List Byte → Mixer → Mixer
  | _, [], x => x
  | p, b :: rest, x => Mixer.pass f hashSize (p + 1) rest (x.advance (f (zext64 b)) (p % hashSize))

/-- Pass 3 (44_reduction.md R200): lanes `count`−1 down to 0, each giving one digest byte; the bytes in index order. -/
def Mixer.reduce (B : Word → Word) : Nat → Mixer → List Byte → List Byte
  | 0, _, digest => digest
  | q + 1, x, digest =>
    let y := x.advance (stepFn B (x.lanes.getD q 0)) q
    Mixer.reduce B q y ((trunc8 (B y.as) ^^^ trunc8 (B (y.lanes.getD q 0))) :: digest)

/-- What is left of `Hash` after the first `done` bytes of pass 1 (46_optional_commands.md R233). -/
def finishHash (B : Word → Word) (hashSize : Nat) (done : Nat) (input : List Byte) (x : Mixer) : List Byte :=
  let x := Mixer.pass (fastStepFn B) hashSize done (input.drop done) x
  let x := Mixer.pass (stepFn B) hashSize 0 input x
  Mixer.reduce B hashSize x []

/-- `Hash(input)` (45_hash_sequencer.md R210): a function of the table, the seed, the digest length and the input (R10). -/
def hashFn (B : Word → Word) (seed : Word) (hashSize : Nat) (input : List Byte) : List Byte :=
  finishHash B hashSize 0 input (Mixer.initial seed hashSize)

/-- `PreHash` (46_optional_commands.md R230): pass 1 over the given bytes alone. -/
def prehashFn (B : Word → Word) (seed : Word) (hashSize : Nat) (input : List Byte) : Mixer :=
  Mixer.pass (fastStepFn B) hashSize 0 input (Mixer.initial seed hashSize)

end Sys2Proof.Machine
end

