-- ==== Sys2Proof/Machine/Table.lean ====
section
/-! DEFINITION. The table INIT builds, as a function of values (40_bytemap_builder.md R123, R128 item 4): the loops of R123 over
a list of bytes. The micro-operations are not defined by it; statements compare the two. -/

namespace Sys2Proof.Machine

/-- The fill (R124): entry `a` is `a mod 256`. -/
def filledTable (mapSize : Nat) : List Byte := (List.range mapSize).map (BitVec.ofNat 8)

/-- Exchange two entries (R127). -/
def swapEntries (table : List Byte) (i j : Nat) : List Byte :=
  (table.set i (table.getD j 0)).set j (table.getD i 0)

/-- One shuffle step at position `i` of pass `ps` (R127), on the rolling state and the table. -/
def shuffleAt (c : ShufChoice) (mk : Word) (ps i : Nat) (x : Word × List Byte) : Word × List Byte :=
  let q := shufF c x.1 (BitVec.ofNat 64 i) (BitVec.ofNat 64 ps) (fun a => x.2.getD a.toNat 0) mk
  (q.1, swapEntries x.2 i q.2.toNat)

/-- `count` shuffle steps of pass `ps` from position `i` on: the inner loop of R123. -/
def shufflePass (c : ShufChoice) (mk : Word) (ps : Nat) : Nat → Nat → Word × List Byte → Word × List Byte
  | 0, _, x => x
  | count + 1, i, x => shufflePass c mk ps count (i + 1) (shuffleAt c mk ps i x)

/-- `count` passes from pass `ps` on: the outer loop of R123; the rolling state carries over (R127). -/
def shufflePasses (c : ShufChoice) (mk : Word) (mapSize : Nat) : Nat → Nat → Word × List Byte → Word × List Byte
  | 0, _, x => x
  | count + 1, ps, x => shufflePasses c mk mapSize count (ps + 1) (shufflePass c mk ps mapSize 0 x)

/-- The ByteMap of `(Seed, MapSizeBits, Passes)` (R128 item 4): fill, then shuffle, the rolling state starting as the seed
(R121). -/
def buildTable (c : ShufChoice) (seed : Word) (mapBits passes : Nat) : List Byte :=
  (shufflePasses c (BitVec.ofNat 64 (2 ^ mapBits - 1)) (2 ^ mapBits) passes 0 (seed, filledTable (2 ^ mapBits))).2

end Sys2Proof.Machine
end

