-- ==== Sys2Proof/WellFormed.lean ====
section
/-! DEFINITION. Which instances the spec admits (00_scope.md R6) and which operations an instance has
(30_encoding.md R91: an optional command is present only where its feature is). -/

namespace Sys2Proof

/-- The constraints of R6. The upper bound of `HS_CAP` is DEDUCED: register 0x31 holds it in 64 bits (log 18). -/
def Instance.wf (c : Instance) : Bool :=
  decide (8 ≤ c.bmCapBits) && decide (c.bmCapBits ≤ 34) && decide (1 ≤ c.hsCap) && decide (c.hsCap < 2 ^ 64)
    && decide (c.inCap ≤ 2 ^ 64)

/-- The operation exists on the instance: R91's column "present when". -/
def Instr.present (c : Instance) (i : Instr) : Bool :=
  match i with
  | .prehash => c.hasSplit
  | .posthash => c.hasSplit
  | .hashbatch => c.hasBatch
  | _ => true

/-- A well-formed operation of an instance is one the instance has; there is no operand to check (R95). -/
def Instr.wellFormed (c : Instance) (i : Instr) : Bool := c.wf && i.present c

end Sys2Proof
end

