-- ==== Sys2Proof/Safety.lean ====
section
/-! DEFINITION. What a sound state of the block is (the ranges 10_state.md R21, R24 to R27 and 20_memory.md R60 give), what is
left of a running command (the counts of 70_reset_and_hazards.md R290), and the views of a state that statements speak of. -/

namespace Sys2Proof.Machine

/-- A memory is in canonical form and lists only cells below the capacity (R33). -/
def memoryOk {α : Type} (cap : Nat) (m : List (Nat × α)) : Prop := Memory.wf m ∧ ∀ x ∈ m, x.1 < cap

/-- The memories of a context (R33). -/
def ctxOk (c : Instance) (x : Ctx) : Prop := memoryOk c.hsCap x.hs ∧ memoryOk c.inCap x.inp ∧ memoryOk c.hsCap x.out

/-- Every memory of the block is in canonical form and within its capacity. -/
def memoriesOk (s : State) : Prop :=
  memoryOk (2 ^ s.inst.bmCapBits) s.bm ∧ memoryOk s.inst.inCap s.pfx ∧ ∀ c ∈ s.ctxs, ctxOk s.inst c

/-- The pairs (ERRCODE, ERRINFO) that are ever produced (60_exceptions.md R251). -/
def errorPairs : List (Byte × Byte) :=
  [(1, 1), (1, 2), (1, 3), (2, 0), (3, 1), (3, 2), (3, 3), (3, 4)]

/-- Exactly one of idle, busy, done, failed (R27), and the error fields zero but in the last. -/
def statusOk (t : Status) : Prop :=
  (t.busy = true → t.done = false ∧ t.err = false) ∧ (t.done = true → t.err = false)
    ∧ (t.err = false → t.errcode = 0 ∧ t.errinfo = 0) ∧ (t.err = true → (t.errcode, t.errinfo) ∈ errorPairs)

/-- The configuration registers hold legal values (R21). -/
def configOk (s : State) : Prop :=
  8 ≤ s.mapSizeBits.toNat ∧ s.mapSizeBits.toNat ≤ 34 ∧ s.mapSizeBits.toNat ≤ s.inst.bmCapBits
    ∧ s.mapSize.toNat = 2 ^ s.mapSizeBits.toNat ∧ s.mask = s.mapSize - 1
    ∧ 1 ≤ s.hashSize.toNat ∧ s.hashSize.toNat ≤ s.inst.hsCap

/-- The configuration registers are zero (R21, D12). -/
def configZero (s : State) : Prop :=
  s.seed = 0 ∧ s.mapSizeBits = 0 ∧ s.hashSize = 0 ∧ s.passes = 0 ∧ s.mapSize = 0 ∧ s.mask = 0

/-- A hash command is running: what acceptance has checked (60_exceptions.md R253) and latched (R26). -/
def hashOk (s : State) : Prop :=
  s.status.configured = true ∧ (s.cmd = 2 ∨ s.cmd = 3 ∨ s.cmd = 4 ∨ s.cmd = 5)
    ∧ 1 ≤ s.nb.toNat ∧ s.nb.toNat ≤ s.nCtx ∧ (s.cmd ≠ 5 → s.nb = 1)
    ∧ s.m.toNat ≤ s.n.toNat
    ∧ (s.cmd ≠ 5 → s.n.toNat ≤ s.inst.inCap)
    ∧ (s.cmd = 5 → s.m.toNat ≤ s.inst.inCap ∧ s.n.toNat - s.m.toNat ≤ s.inst.inCap)

/-- In passes 1 and 2 the position is inside the input and `idx = p mod HASHSIZE` (R25, 45_hash_sequencer.md R214). -/
def positionOk (s : State) : Prop := s.p.toNat < s.n.toNat ∧ s.idx.toNat = s.p.toNat % s.hashSize.toNat

/-- Pass 1 or 2 is running; PREHASH has no pass 2 (46_optional_commands.md R230). -/
def inputPass (s : State) : Prop := (s.ph = 1 ∨ s.ph = 2) ∧ (s.cmd = 3 → s.ph = 1) ∧ positionOk s

/-- A FastStep is running (R212: `ph` is 1), its input value a byte (45_hash_sequencer.md R213). -/
def fastOk (s : State) : Prop :=
  hashOk s ∧ s.kc.toNat < s.nb.toNat ∧ s.ph = 1 ∧ positionOk s ∧ s.v2.toNat < 256

/-- A Step is running: in pass 2 on an input byte, in pass 3 on lane `i` (44_reduction.md R201). -/
def mixOk (s : State) : Prop :=
  hashOk s ∧ s.kc.toNat < s.nb.toNat ∧ s.cmd ≠ 3
    ∧ ((s.ph = 2 ∧ positionOk s ∧ s.v2.toNat < 256) ∨ (s.ph = 3 ∧ s.i.toNat < s.hashSize.toNat ∧ s.idx = s.i))

/-- Pass 3 is at lane `i` (44_reduction.md R200). -/
def reduceOk (s : State) : Prop :=
  hashOk s ∧ s.kc.toNat < s.nb.toNat ∧ s.cmd ≠ 3 ∧ s.ph = 3 ∧ s.i.toNat < s.hashSize.toNat

/-- The builder is at work: not configured, the configuration latched (40_bytemap_builder.md R121). -/
def buildOk (s : State) : Prop :=
  s.status.configured = false ∧ configOk s ∧ s.i.toNat < s.mapSize.toNat

/-- What holds while the micro-operation `i` is the next to run. -/
def phaseOk (i : Instr) (s : State) : Prop :=
  match i with
  | .check => s.status.configured = false
  | .fill => buildOk s ∧ s.ps = 0
  | .shuf => buildOk s ∧ s.ps.toNat < s.passes.toNat
  | .fsB => fastOk s
  | .fsAs => fastOk s ∧ s.bt.toNat < 256
  | .fsS1 => fastOk s
  | .fsHs => fastOk s
  | .fsRot => fastOk s
  | .stL01 => mixOk s
  | .stL02 => mixOk s
  | .stL03 => mixOk s
  | .stL04 => mixOk s
  | .stL05 => mixOk s
  | .stL06 => mixOk s
  | .stL07 => mixOk s
  | .stL08 => mixOk s
  | .stL09 => mixOk s
  | .stL10 => mixOk s
  | .stL11 => mixOk s
  | .stL12 => mixOk s
  | .stL13 => mixOk s
  | .stL14 => mixOk s
  | .stL15 => mixOk s
  | .stL16 => mixOk s
  | .stL17 => mixOk s
  | .stL18 => mixOk s
  | .stL19 => mixOk s
  | .stL20 => mixOk s
  | .stL21 => mixOk s
  | .stL22 => mixOk s
  | .stL23 => mixOk s
  | .stL24 => mixOk s
  | .stL25 => mixOk s
  | .stL26 => mixOk s
  | .stL27 => mixOk s
  | .stRot => mixOk s
  | .redLoad => reduceOk s
  | .redEmit => reduceOk s ∧ s.idx = s.i
  | .hinit => hashOk s ∧ s.cmd ≠ 4
  | .ldin => hashOk s ∧ s.kc.toNat < s.nb.toNat ∧ inputPass s
  | .adv => hashOk s ∧ s.kc = 0 ∧ inputPass s
  | .resume => hashOk s ∧ s.cmd = 4
  | .init => False
  | .hash => False
  | .prehash => False
  | .posthash => False
  | .hashbatch => False

/-- The sequencer is where R93 allows it to be (R24), busy exactly while a command runs, and its counters and latches are in
their ranges (R25, R26). -/
def sequencerOk (s : State) : Prop :=
  match decodeUop s.upc with
  | .ok i => s.status.busy = true ∧ phaseOk i s
  | .error .idle => s.status.busy = false ∧ (s.status.configured = false → configZero s)
  | .error _ => False

/-- The invariant of the block: what holds after reset and after every step. -/
structure Sound (s : State) : Prop where
  inst : s.inst.wf = true
  contexts : 1 ≤ s.nCtx ∧ s.nCtx < 2 ^ 64
  memories : memoriesOk s
  status : statusOk s.status
  config : s.status.configured = true → configOk s
  sequencer : sequencerOk s

/-- The table holds a permutation of 0..`MAPSIZE`−1, each value mod 256 (40_bytemap_builder.md R128 item 3). -/
def tablePermuted (s : State) : Prop :=
  ∃ π : Nat → Nat, (∀ a < s.mapSize.toNat, π a < s.mapSize.toNat)
    ∧ (∀ a < s.mapSize.toNat, ∀ b < s.mapSize.toNat, π a = π b → a = b)
    ∧ ∀ a < s.mapSize.toNat, s.peekByte .bm a = BitVec.ofNat 8 (π a)

/-- The first `count` cells of the table hold the fill (R124). -/
def tableFilled (s : State) (count : Nat) : Prop := ∀ a < count, s.peekByte .bm a = BitVec.ofNat 8 a

/-- What INIT guarantees of the table as it goes (R128): the cells filled so far; a permutation from the first SHUF on and ever
after; the unshuffled fill if `PASSES` is 0. -/
structure TableInv (s : State) : Prop where
  filling : s.upc = microAddress .fill → tableFilled s s.i.toNat
  shuffled : s.status.configured = true ∨ s.upc = microAddress .shuf → tablePermuted s
  unshuffled : s.status.configured = true → s.passes = 0 → tableFilled s s.mapSize.toNat

/-- How many cells of the table hold the byte value `v` (R128 item 2). -/
def histogram (s : State) (v : Byte) : Nat := (List.range s.mapSize.toNat).countP fun a => s.peekByte .bm a = v

/-! ### What is left of a running command -/

/-- Micro-operations of pass 3 over `count` lanes (46_optional_commands.md R236). -/
def pass3Steps (s : State) (count : Nat) : Nat := 30 * count * s.nb.toNat

/-- Micro-operations of pass 2 over `count` positions, and what follows it. -/
def pass2Steps (s : State) (count : Nat) : Nat := count * (29 * s.nb.toNat + 1) + pass3Steps s s.hashSize.toNat

/-- Micro-operations of pass 1 over `count` positions, and what follows it; PREHASH stops there (R230). -/
def pass1Steps (s : State) (count : Nat) : Nat :=
  count * (6 * s.nb.toNat + 1) + if s.cmd = 3 then 0 else pass2Steps s s.n.toNat

/-- Positions of the running pass that come after the current one. -/
def positionsLeft (s : State) : Nat := s.n.toNat - (s.p.toNat + 1)

/-- Contexts that come after the current one. -/
def contextsLeft (s : State) : Nat := s.nb.toNat - (s.kc.toNat + 1)

/-- What is left after a FastStep of the current context. -/
def afterFastSteps (s : State) : Nat := 6 * contextsLeft s + 1 + pass1Steps s (positionsLeft s)

/-- What is left after the Step of the current context: of pass 3 in pass 3, else of pass 2. -/
def afterMixSteps (s : State) : Nat :=
  if s.ph = 3 then 1 + 30 * contextsLeft s + pass3Steps s s.i.toNat
  else 29 * contextsLeft s + 1 + pass2Steps s (positionsLeft s)

/-- Micro-operations of INIT after CHECK (40_bytemap_builder.md R123). -/
def buildSteps (mapSize passes : Word) : Nat := mapSize.toNat + passes.toNat * mapSize.toNat

/-- Micro-operations still to run, the micro-operation `i` being the next. -/
def stepsFrom (i : Instr) (s : State) : Nat :=
  match i with
  | .check => 1 + if (checkError s).isSome then 0 else buildSteps (mapSizeOf s.cMb) s.cPas
  | .fill => s.mapSize.toNat - s.i.toNat + s.passes.toNat * s.mapSize.toNat
  | .shuf => s.mapSize.toNat - s.i.toNat + (s.passes.toNat - (s.ps.toNat + 1)) * s.mapSize.toNat
  | .fsB => 5 + afterFastSteps s
  | .fsAs => 4 + afterFastSteps s
  | .fsS1 => 3 + afterFastSteps s
  | .fsHs => 2 + afterFastSteps s
  | .fsRot => 1 + afterFastSteps s
  | .stL01 => 28 + afterMixSteps s
  | .stL02 => 27 + afterMixSteps s
  | .stL03 => 26 + afterMixSteps s
  | .stL04 => 25 + afterMixSteps s
  | .stL05 => 24 + afterMixSteps s
  | .stL06 => 23 + afterMixSteps s
  | .stL07 => 22 + afterMixSteps s
  | .stL08 => 21 + afterMixSteps s
  | .stL09 => 20 + afterMixSteps s
  | .stL10 => 19 + afterMixSteps s
  | .stL11 => 18 + afterMixSteps s
  | .stL12 => 17 + afterMixSteps s
  | .stL13 => 16 + afterMixSteps s
  | .stL14 => 15 + afterMixSteps s
  | .stL15 => 14 + afterMixSteps s
  | .stL16 => 13 + afterMixSteps s
  | .stL17 => 12 + afterMixSteps s
  | .stL18 => 11 + afterMixSteps s
  | .stL19 => 10 + afterMixSteps s
  | .stL20 => 9 + afterMixSteps s
  | .stL21 => 8 + afterMixSteps s
  | .stL22 => 7 + afterMixSteps s
  | .stL23 => 6 + afterMixSteps s
  | .stL24 => 5 + afterMixSteps s
  | .stL25 => 4 + afterMixSteps s
  | .stL26 => 3 + afterMixSteps s
  | .stL27 => 2 + afterMixSteps s
  | .stRot => 1 + afterMixSteps s
  | .redLoad => 30 * (contextsLeft s + 1) + pass3Steps s s.i.toNat
  | .redEmit => 1 + 30 * contextsLeft s + pass3Steps s s.i.toNat
  | .hinit => 1 + pass1Steps s s.n.toNat
  | .resume => 1 + pass1Steps s (s.n.toNat - s.m.toNat)
  | .ldin =>
    if s.ph = 1 then 6 * (contextsLeft s + 1) + 1 + pass1Steps s (positionsLeft s)
    else 29 * (contextsLeft s + 1) + 1 + pass2Steps s (positionsLeft s)
  | .adv =>
    if s.ph = 1 then 1 + pass1Steps s (positionsLeft s) else 1 + pass2Steps s (positionsLeft s)
  | .init => 0
  | .hash => 0
  | .prehash => 0
  | .posthash => 0
  | .hashbatch => 0

/-- Micro-operations of the running command still to run (R290); 0 while idle. -/
def stepsLeft (s : State) : Nat :=
  match decodeUop s.upc with
  | .ok i => stepsFrom i s
  | .error _ => 0

/-- `k` steps of the machine, up to the first stop. -/
def runSteps : Nat → State → Result
  | 0, s => .next s
  | k + 1, s =>
    match step s with
    | .next t => runSteps k t
    | .fault f => .fault f
    | .refused r => .refused r

/-! ### Views of a state -/

/-- `B` of R140 on the table the state holds. -/
def tableOf (s : State) (v : Word) : Word := zext64 (s.peekByte .bm (probeAddress s v))

/-- The effective input of context `k` of the running command (45_hash_sequencer.md R213, 46_optional_commands.md R237). -/
def effectiveInput (s : State) (k : Nat) : List Byte :=
  (List.range s.n.toNat).map fun q =>
    if s.cmd = 5 then
      if q < s.m.toNat then s.peekByte .pfx q else s.peekByte (.inp k) (q - s.m.toNat)
    else s.peekByte (.inp 0) q

/-- The mix state in context `k`: its running words and the lanes in use (46_optional_commands.md R231). -/
def mixerOf (s : State) (k : Nat) : Mixer :=
  let c := (s.ctxs[k]?).getD Ctx.blank
  { as := c.as, s1 := c.s1, s2 := c.s2, s3 := c.s3, lanes := (List.range s.hashSize.toNat).map (s.peekLane k) }

/-- The digest in context `k` (44_reduction.md R202): `OUT[k][0..HASHSIZE)`. -/
def digestOf (s : State) (k : Nat) : List Byte := (List.range s.hashSize.toNat).map (s.peekByte (.out k))

end Sys2Proof.Machine
end

