-- ==== Sys2Proof/Machine/Schedule.lean ====
section
/-! DEFINITION. The schedule of Step as the table of 43_step.md R161, row by row, and what a row says its line does. The meanings
of the lines are not defined by it (they follow the listing, R160); a statement compares the two. -/

namespace Sys2Proof.Machine

/-- What a term names. -/
inductive TermSource where
  | as
  | s1
  | s2
  | lane
  | v2
  deriving DecidableEq, Repr

/-- A term of a row: a source, as it is or shifted. -/
inductive Term where
  | plain (x : TermSource)
  | left (x : TermSource) (n : Nat)
  | right (x : TermSource) (n : Nat)
  deriving DecidableEq, Repr

/-- A row of R161's table: the line, its destination, its plain XOR terms, its probe index terms, the probe shift, and the line
that follows. -/
structure Row where
  line : Instr
  dst : TermSource
  terms : List Term
  index : List Term
  shift : Option Nat
  next : Instr
  deriving DecidableEq, Repr

/-- What the sources hold before a line. -/
structure LineOperands where
  as : Word
  s1 : Word
  s2 : Word
  lane : Word
  v2 : Word
  deriving DecidableEq, Repr

/-- The value of a source. -/
def LineOperands.get (x : LineOperands) (t : TermSource) : Word :=
  match t with
  | .as => x.as
  | .s1 => x.s1
  | .s2 => x.s2
  | .lane => x.lane
  | .v2 => x.v2

/-- The value of a term (00_scope.md R7). -/
def LineOperands.term (x : LineOperands) (t : Term) : Word :=
  match t with
  | .plain q => x.get q
  | .left q n => x.get q <<< n
  | .right q n => x.get q >>> n

/-- The XOR of terms. -/
def LineOperands.xor (x : LineOperands) (l : List Term) : Word := (l.map x.term).foldl (· ^^^ ·) 0

/-- The value a row gives its destination, `B` being the table. -/
def Row.value (row : Row) (B : Word → Word) (x : LineOperands) : Word :=
  match row.shift with
  | some n => x.xor row.terms ^^^ (B (x.xor row.index) <<< n)
  | none => x.xor row.terms

/-- What a line finds in its sources: the words of the context, the lane `hs[idx]`, the latch `v2`. -/
def lineOperands (s : State) (c : Ctx) : LineOperands :=
  { as := c.as, s1 := c.s1, s2 := c.s2, lane := s.peekLane s.kc.toNat s.idx.toNat, v2 := s.v2 }

/-- The state after a row's line: the destination written, then the next line. -/
def Row.apply (row : Row) (s : State) (c : Ctx) : State :=
  let v := row.value (tableOf s) (lineOperands s c)
  let t := match row.dst with
    | .as => s.setCtx { c with as := v }
    | .s1 => s.setCtx { c with s1 := v }
    | .s2 => s.setCtx { c with s2 := v }
    | .lane => s.pokeLane s.kc.toNat s.idx.toNat v
    | .v2 => s
  t.goto row.next

open Term TermSource in
/-- Lines 1 to 9 of the table of R161. -/
def scheduleFirst : List Row :=
  [
    ⟨.stL01, .s1, [left .s1 9, right .s1 1, plain .as], [right .as 5, plain .v2], some 3, .stL02⟩,
    ⟨.stL02, .s1, [left .s1 5, right .s1 3], [plain .s1, plain .v2], some 7, .stL03⟩,
    ⟨.stL03, .s1, [left .s1 7, right .s1 7], [plain .as, right .s1 7], some 5, .stL04⟩,
    ⟨.stL04, .s1, [left .s1 11, right .s1 5], [plain .v2, right .as 11, plain .s1], some 27, .stL05⟩,
    ⟨.stL05, .lane, [plain .s1, plain .as, left .lane 7, right .lane 13], [], none, .stL06⟩,
    ⟨.stL06, .as, [left .as 17, right .as 5, plain .s1], [plain .as, right .s1 27, plain .v2], some 3, .stL07⟩,
    ⟨.stL07, .as, [left .as 13, right .as 3], [plain .as, plain .s1], some 7, .stL08⟩,
    ⟨.stL08, .as, [left .as 15, right .as 7], [right .as 7, plain .s1], some 11, .stL09⟩,
    ⟨.stL09, .as, [left .as 9, right .as 11], [plain .v2, plain .as, plain .s1], some 3, .stL10⟩
  ]

open Term TermSource in
/-- Lines 10 to 18. -/
def scheduleSecond : List Row :=
  [
    ⟨.stL10, .s1, [left .s1 7, right .s1 27, plain .as], [right .as 3], some 13, .stL11⟩,
    ⟨.stL11, .s1, [left .s1 3, right .s1 13], [plain .s1, plain .v2], some 11, .stL12⟩,
    ⟨.stL12, .s1, [left .s1 8, right .s1 11], [plain .as, right .s1 11], some 9, .stL13⟩,
    ⟨.stL13, .s1, [left .s1 6, right .s1 9], [plain .v2, plain .as, plain .s1], some 3, .stL14⟩,
    ⟨.stL14, .as, [left .as 23, right .as 3, plain .s1], [plain .as, plain .v2, right .s1 3], some 7, .stL15⟩,
    ⟨.stL15, .as, [left .as 17, right .as 7], [plain .as, right .s1 3], some 5, .stL16⟩,
    ⟨.stL16, .as, [left .as 13, right .as 5], [right .as 5, plain .s1], some 1, .stL17⟩,
    ⟨.stL17, .as, [left .as 11, right .as 1], [plain .v2, plain .as, plain .s1], some 7, .stL18⟩,
    ⟨.stL18, .s1, [left .s1 5, right .s1 3, plain .as], [right .as 7, right .s1 3], some 6, .stL19⟩
  ]

open Term TermSource in
/-- Lines 19 to 27. -/
def scheduleThird : List Row :=
  [
    ⟨.stL19, .s1, [left .s1 8, right .s1 6], [plain .s1, plain .v2], some 11, .stL20⟩,
    ⟨.stL20, .s1, [left .s1 11, right .s1 11], [plain .as, right .s1 11], some 5, .stL21⟩,
    ⟨.stL21, .s1, [left .s1 7, right .s1 5], [plain .v2, right .as 7, plain .as, plain .s1], some 17, .stL22⟩,
    ⟨.stL22, .s2, [left .s2 3, right .s2 17, plain .s1], [plain .as, right .s2 5, plain .v2], some 13, .stL23⟩,
    ⟨.stL23, .s2, [left .s2 6, right .s2 13], [plain .s2], some 11, .stL24⟩,
    ⟨.stL24, .s2, [left .s2 11, right .s2 11], [plain .as, plain .s1, right .s2 11], some 23, .stL25⟩,
    ⟨.stL25, .s2, [left .s2 4, right .s2 23], [plain .v2, right .as 8, plain .as, right .s2 10], some 1, .stL26⟩,
    ⟨.stL26, .s1, [left .s2 3, right .s2 1, plain .lane, plain .v2], [], none, .stL27⟩,
    ⟨.stL27, .as, [left .as 9, right .as 7, right .s1 1], [right .s2 1, plain .lane], some 5, .stRot⟩
  ]

/-- The table of R161. -/
def scheduleTable : List Row := scheduleFirst ++ scheduleSecond ++ scheduleThird

end Sys2Proof.Machine
end

