-- ==== Sys2Proof/Machine/Frame.lean ====
section
/-! DEFINITION. The vocabulary of the statements about what an operation changes and what it leaves alone: the cells it stores to
(20_memory.md R64), who loads each register and latch (10_state.md R21 to R26), the cause of an illegal command as
60_exceptions.md R253 lists it, and what the flow of control depends on (45_hash_sequencer.md R212). -/

namespace Sys2Proof.Machine

/-- Operation `i` stores to the byte cell `a` of `sp` when it runs in `s`; the addresses are those its meaning uses (R64). -/
def storesByte (i : Instr) (s : State) (sp : ByteSpace) (a : Nat) : Prop :=
  (i = .fill ∧ sp = .bm ∧ a = s.i.toNat)
    ∨ (i = .shuf ∧ sp = .bm
        ∧ (a = s.i.toNat
          ∨ a = (shufF s.inst.shuf s.r s.i s.ps (fun w => s.peekByte .bm w.toNat) s.mask).2.toNat))
    ∨ (i = .redEmit ∧ sp = .out s.kc.toNat ∧ a = s.i.toNat)

/-- Operation `i` stores to lane `a` of `HS[k]` when it runs in `s` (R64). -/
def storesLane (i : Instr) (s : State) (k a : Nat) : Prop :=
  (i = .hinit ∧ k < s.nb.toNat ∧ a < s.hashSize.toNat)
    ∨ ((i = .fsHs ∨ i = .stL05) ∧ k = s.kc.toNat ∧ a = s.idx.toNat)

/-- The five commands (30_encoding.md R91). -/
def commands : List Instr := [.init, .hash, .prehash, .posthash, .hashbatch]

/-- The lines that write `as` (R152, 43_step.md R161). -/
def asWriters : List Instr :=
  [.fsAs, .stL06, .stL07, .stL08, .stL09, .stL14, .stL15, .stL16, .stL17, .stL27]

/-- The lines and rotations that write `s1` (R142, R153, R161). -/
def s1Writers : List Instr :=
  [.fsS1, .fsRot, .stRot, .stL01, .stL02, .stL03, .stL04, .stL10, .stL11, .stL12, .stL13, .stL18, .stL19, .stL20, .stL21,
    .stL26]

/-- The lines and rotations that write `s2` (R142, R161). -/
def s2Writers : List Instr := [.fsRot, .stRot, .stL22, .stL23, .stL24, .stL25]

/-- The rotations write `s3` and nothing else does (R142). -/
def s3Writers : List Instr := [.fsRot, .stRot]

/-- The sub-cause of the first cause of R253 that holds for the command word `w` written in `s`; none if the command is legal. -/
def illegalCause (s : State) (w : Word) : Option Byte :=
  let opcode := w.toNat % 256
  if w.toNat / 256 ≠ 0 ∨ opcode = 0 ∨ 5 < opcode ∨ ((opcode = 3 ∨ opcode = 4) ∧ s.inst.hasSplit = false)
      ∨ (opcode = 5 ∧ s.inst.hasBatch = false) then some 1
  else if opcode ≠ 1 ∧ s.status.configured = false then some 2
  else if (opcode = 2 ∧ s.inst.inCap < s.len.toNat) ∨ (opcode = 3 ∧ s.inst.inCap < s.plen.toNat)
      ∨ (opcode = 4 ∧ (s.inst.inCap < s.len.toNat ∨ s.len.toNat < s.plen.toNat))
      ∨ (opcode = 5 ∧ (s.inst.inCap < s.len.toNat ∨ s.inst.inCap < s.plen.toNat ∨ 2 ^ 64 ≤ s.plen.toNat + s.len.toNat))
    then some 3
  else if opcode = 5 ∧ (s.nbatch.toNat = 0 ∨ s.nCtx < s.nbatch.toNat) then some 4
  else none

/-- `STATUS` after an error (60_exceptions.md R256). -/
def failedStatus (configured : Bool) (code info : Byte) : Status where
  busy := false
  configured := configured
  done := false
  err := true
  errcode := code
  errinfo := info

/-- `STATUS` while a command runs (R27, R92). -/
def busyStatus (configured : Bool) : Status where
  busy := true
  configured := configured
  done := false
  err := false
  errcode := 0
  errinfo := 0

/-- `STATUS` after a successful command, 0x06 (R122, R215). -/
def doneStatus : Status where
  busy := false
  configured := true
  done := true
  err := false
  errcode := 0
  errinfo := 0

/-- Everything a control transfer of a hash command depends on (R212): the micro-address, the counters, the command latches and
`HASHSIZE`. -/
structure Control where
  upc : BitVec 8
  p : Word
  idx : Word
  i : Word
  kc : Word
  ph : BitVec 2
  cmd : Byte
  n : Word
  m : Word
  nb : Word
  hashSize : Word
  deriving DecidableEq, Repr

/-- The control part of a state. -/
def controlOf (s : State) : Control where
  upc := s.upc
  p := s.p
  idx := s.idx
  i := s.i
  kc := s.kc
  ph := s.ph
  cmd := s.cmd
  n := s.n
  m := s.m
  nb := s.nb
  hashSize := s.hashSize

/-- The operations of a hash command (R210): every micro-operation but the builder's three. -/
def hashOperation (i : Instr) : Prop := i ∉ commands ∧ i ≠ .check ∧ i ≠ .fill ∧ i ≠ .shuf

/-- The 31 register numbers of 10_state.md R28. -/
def definedNumbers : List (BitVec 8) :=
  [0x00, 0x01, 0x02, 0x03, 0x04, 0x05, 0x06, 0x07, 0x08, 0x10, 0x11, 0x12, 0x13, 0x14, 0x15, 0x18, 0x19, 0x1A, 0x1B, 0x1C,
    0x1D, 0x20, 0x21, 0x22, 0x23, 0x24, 0x30, 0x31, 0x32, 0x33, 0x34]

/-- Those whose access is RW (R28): neither read-only, nor `CMD`. -/
def writableNumbers : List (BitVec 8) :=
  [0x02, 0x03, 0x04, 0x05, 0x06, 0x07, 0x08, 0x18, 0x19, 0x1A, 0x1B, 0x1C, 0x1D, 0x21, 0x22, 0x23]

/-- Those that `CTXSEL` selects a context for (R29 item 3). -/
def contextNumbers : List (BitVec 8) := [0x1A, 0x1B, 0x1C, 0x1D, 0x21, 0x22, 0x24]

/-- The four running words of a context (R23). -/
def wordsOf (c : Ctx) : Word × Word × Word × Word := (c.as, c.s1, c.s2, c.s3)

/-- The bytes of a buffer from cell 0 on. -/
def bytesOf (s : State) (sp : ByteSpace) (count : Nat) : List Byte := (List.range count).map (s.peekByte sp)

/-- From `s` to `t` lane `a` of `HS[k]` has become `v`; every other lane, every byte and every running word is as before. -/
def laneWritten (s t : State) (k a : Nat) (v : Word) : Prop :=
  (∀ k' a', t.peekLane k' a' = if k' = k ∧ a' = a then v else s.peekLane k' a')
    ∧ (∀ sp a', t.peekByte sp a' = s.peekByte sp a') ∧ t.ctxs.map wordsOf = s.ctxs.map wordsOf

/-- From `s` to `t` cell `a` of `sp` has become `v`; every other byte, every lane and every running word is as before. -/
def byteWritten (s t : State) (sp : ByteSpace) (a : Nat) (v : Byte) : Prop :=
  (∀ sp' a', t.peekByte sp' a' = if sp' = sp ∧ a' = a then v else s.peekByte sp' a')
    ∧ (∀ k a', t.peekLane k a' = s.peekLane k a') ∧ t.ctxs.map wordsOf = s.ctxs.map wordsOf

/-- The current context is `c` and every probe is in range (R61): what a probing line needs. -/
def probing (s : State) (c : Ctx) : Prop := s.ctxs[s.kc.toNat]? = some c ∧ s.mask.toNat < 2 ^ s.inst.bmCapBits

/-- The running words and the lane `hs[idx]` of the current context `c` (R156, R190). -/
def mixOf (s : State) (c : Ctx) : Mix where
  as := c.as
  s1 := c.s1
  s2 := c.s2
  s3 := c.s3
  lane := s.peekLane s.kc.toNat s.idx.toNat

end Sys2Proof.Machine
end

