-- ==== Sys2Proof/Machine/Pseudo.lean ====
section
/-! DEFINITION. The pseudo-instructions of 30_encoding.md R98 a host writes, each as the lines of R97 it stands for. -/

namespace Sys2Proof.Machine

/-- `INIT seed, mapbits, hashsize, passes`. -/
def pseudoInit (seed mapbits hashsize passes : Word) : List HostEvent :=
  [.wr 0x02 seed, .wr 0x03 mapbits, .wr 0x04 hashsize, .wr 0x05 passes, .wr 0x00 0x01, .wait]

/-- One `WR WADDR, q; WR reg, b` for each byte, `q` counting up. -/
def loadBytes (reg : BitVec 8) : Nat → List Byte → List HostEvent
  | _, [] => []
  | q, b :: rest => .wr 0x19 (BitVec.ofNat 64 q) :: .wr reg (b.setWidth 64) :: loadBytes reg (q + 1) rest

/-- `LOADIN k, b0 b1 ...`. -/
def pseudoLoadin (k : Word) (bytes : List Byte) : List HostEvent := .wr 0x18 k :: loadBytes 0x22 0 bytes

/-- `LOADPFX b0 b1 ...`. -/
def pseudoLoadpfx (bytes : List Byte) : List HostEvent := loadBytes 0x23 0 bytes

/-- `HASH n`. -/
def pseudoHash (n : Word) : List HostEvent := [.wr 0x06 n, .wr 0x00 0x02, .wait]

/-- `PREHASH m`. -/
def pseudoPrehash (m : Word) : List HostEvent := [.wr 0x07 m, .wr 0x00 0x03, .wait]

/-- `POSTHASH n, m`. -/
def pseudoPosthash (n m : Word) : List HostEvent := [.wr 0x06 n, .wr 0x07 m, .wr 0x00 0x04, .wait]

/-- `HASHBATCH N, n, m`. -/
def pseudoHashbatch (count n m : Word) : List HostEvent :=
  [.wr 0x08 count, .wr 0x06 n, .wr 0x07 m, .wr 0x00 0x05, .wait]

/-- `WR WADDR, q; RD OUT_DATA` for each `q` of a list. -/
def readCells : List Nat → List HostEvent
  | [] => []
  | q :: rest => .wr 0x19 (BitVec.ofNat 64 q) :: .rd 0x24 :: readCells rest

/-- `READOUT k`, of a digest of `hashsize` bytes. -/
def pseudoReadout (k : Word) (hashsize : Nat) : List HostEvent := .wr 0x18 k :: readCells (List.range hashsize)

end Sys2Proof.Machine
end

