-- ==== Sys2Proof/Certificates/Slice0/Obligations.lean ====
section
/-! DEFINITION. The statements for the provers: what the rules of spec/ say an operation and the machine do. A state is sound if
it meets `Sound` (Sys2Proof/Safety.lean); the vocabulary of frames is in Sys2Proof/Machine/Frame.lean. -/

open Sys2Proof Sys2Proof.Machine

/-! ### Codes -/

/-- The five command words of R91, and micro-addresses of every routine of R93 (among them the first and last line of Step
and both rotations), written out, decode to their operation. (30_encoding.md R91, 30_encoding.md R93.) -/
def Obligations.ListedCodesDecode : Prop :=
  (decodeCommand 0x0000000000000001#64 = .ok .init ∧ decodeCommand 0x0000000000000002#64 = .ok .hash
    ∧ decodeCommand 0x0000000000000003#64 = .ok .prehash ∧ decodeCommand 0x0000000000000004#64 = .ok .posthash
    ∧ decodeCommand 0x0000000000000005#64 = .ok .hashbatch)
    ∧ (decodeUop 0b00100000#8 = .ok .check ∧ decodeUop 0b00100010#8 = .ok .shuf ∧ decodeUop 0b01000001#8 = .ok .fsB
      ∧ decodeUop 0b01000101#8 = .ok .fsRot ∧ decodeUop 0b01100001#8 = .ok .stL01 ∧ decodeUop 0b01111011#8 = .ok .stL27
      ∧ decodeUop 0b01111100#8 = .ok .stRot ∧ decodeUop 0b10000001#8 = .ok .redEmit ∧ decodeUop 0b10100011#8 = .ok .resume)

/-- For every command word (all 2^64) and every micro-address, and for every operation i: the code decodes to i if and only
if it is the code encode gives i. So decode of encode i is i, no two operations share a code, every bit of a command word is
significant, and every other code decodes to nothing. (30_encoding.md R90, 30_encoding.md R93, 30_encoding.md R99.) -/
def Obligations.DecodingInvertsEncoding : Prop :=
  ∀ (c : Code) (i : Instr), decode c = .ok i ↔ c = encode i

/-! ### Steps -/

/-- If upc decodes to the operation i, a step is exec of i: at the state itself if the host has nothing left to do; at the
state with the host event consumed if the host is quiet in the slot; at the state with STATUS noted as the value read if the
host WAITs and the block is busy (it waits on). The rules cited say that the operation at upc is what the block executes and
that WAIT is a repeated read of STATUS. That a slot the host leaves alone, a quiet slot and a poll of a WAIT each run exactly
one micro-operation is the model's choice, log entry 7 (70_reset_and_hazards.md R292 gives no timing), and that rdata notes
the STATUS read is log entry 8. (30_encoding.md R93, 10_state.md R24, 30_encoding.md R97.) -/
def Obligations.StepRunsMicroOperationAtUpc : Prop :=
  ∀ (s : State) (i : Instr), decodeUop s.upc = .ok i →
    (s.host = [] → step s = exec i s)
      ∧ (∀ rest, s.host = .quiet :: rest → step s = exec i { s with host := rest })
      ∧ (∀ rest, s.host = .wait :: rest → s.status.busy = true →
          step s = exec i { s with rdata := statusWord s.status })

/-- If the next host event is a write of register 0x00 and the word decodes to the command i, the step is exec of i at the
state with that event consumed. (30_encoding.md R90, 30_encoding.md R92.) -/
def Obligations.StepRunsCommandWritten : Prop :=
  ∀ (s : State) (rest : List HostEvent) (w : Word) (i : Instr), s.host = .wr 0x00 w :: rest → decodeCommand w = .ok i →
    step s = exec i { s with host := rest }

/-- In every sound state (Sound) that is not busy: if the host has nothing to do, or is quiet in the slot, the step changes
nothing (but for the quiet event consumed); a WAIT ends and reads STATUS. That an idle block changes no state is R267 and
R24, that a WAIT ends when it reads BUSY 0 is R97. That the WAIT takes one slot to do so is the model's choice, log entry 7,
and that rdata notes the STATUS read is log entry 8. (60_exceptions.md R267, 10_state.md R24, 30_encoding.md R97.) -/
def Obligations.IdleBlockChangesNothing : Prop :=
  ∀ (s : State), Sound s → s.status.busy = false →
    (s.host = [] → step s = .next s)
      ∧ (∀ rest, s.host = .quiet :: rest → step s = .next { s with host := rest })
      ∧ (∀ rest, s.host = .wait :: rest → step s = .next { s with host := rest, rdata := statusWord s.status })

/-- For an idle block and every 64-bit word w written to CMD. If w is the code of a command the instance has, the step runs
that command. Otherwise (a bit of 63:8 set, a reserved OPCODE, or an optional command the instance lacks) the step records
ERR, ERRCODE 3, ERRINFO 1 in STATUS, CONFIGURED as it was, with the block idle (upc 0), and nothing else changes. (R94.) -/
def Obligations.IllegalWordOnlyRecordsTheError : Prop :=
  ∀ (s : State) (rest : List HostEvent) (w : Word), s.host = .wr 0x00 w :: rest → s.status.busy = false →
    (∀ i : Instr, i.present s.inst = true → encode i = .command w → step s = exec i { s with host := rest })
      ∧ ((∀ i : Instr, i.present s.inst = true → encode i ≠ .command w) →
          step s = .next { s with
            host := rest
            status := { busy := false, configured := s.status.configured, done := false, err := true,
                        errcode := 0x03, errinfo := 0x01 }
            upc := 0 })

/-! ### Acceptance and errors -/

/-- For an idle block and every 64-bit word w written to CMD: illegalCause is the sub-cause of the first of the four tests of
R253 that holds. If there is one, the write ends the command with ERR, ERRCODE 3 and that ERRINFO, and nothing but STATUS
(and upc, 0) changes. If there is none, w is the code of a command, the write runs it, and it answers a next state that is
busy without error, with cmd holding the opcode. That cmd too is unchanged after a failed argument check is the model's
reading, log entry 13 (DEDUCED: the listing of 30_encoding.md R92 writes cmd before those checks, 45_hash_sequencer.md R210
and R256 have it unchanged). (60_exceptions.md R253, 60_exceptions.md R256.) -/
def Obligations.IllegalCommandCausesInOrder : Prop :=
  ∀ (s : State) (w : Word), s.status.busy = false →
    (∀ info, illegalCause s w = some info →
      commandWrite s w = .next { s with status := failedStatus s.status.configured 0x03 info, upc := 0 })
      ∧ (illegalCause s w = none →
          ∃ i t, encode i = .command w ∧ commandWrite s w = exec i s ∧ exec i s = .next t
            ∧ t.status.busy = true ∧ t.status.err = false ∧ t.cmd = w.setWidth 8)

/-- For each of INIT, HASH, PREHASH, POSTHASH and HASHBATCH and every busy state: exec answers the same state.
(30_encoding.md R92, 10_state.md R29.) -/
def Obligations.CommandIgnoredWhileBusy : Prop :=
  ∀ (s : State) (i : Instr), i ∈ commands → s.status.busy = true → exec i s = .next s

/-- For every idle state exec of INIT answers the next state in which STATUS is BUSY alone, the four argument registers are
copied for CHECK, cmd is 1 and upc is CHECK; nothing else changes. CONFIGURED is cleared by the acceptance, as R27 and R92
say (R121 clears it at CHECK; log entry 14); the copies are latches of the model (log entry 9). (30_encoding.md R92,
40_bytemap_builder.md R120, 10_state.md R27.) -/
def Obligations.InitIsAccepted : Prop :=
  ∀ (s : State), s.status.busy = false →
    exec .init s = .next { s with
      status := busyStatus false
      cSeed := s.argSeed, cMb := s.argMapbits, cHsz := s.argHashsize, cPas := s.argPasses
      cmd := 0x01
      upc := 0x20 }

/-- For every idle configured state: HASH with LEN within IN_CAP, PREHASH (present) with PLEN within IN_CAP, POSTHASH
(present) with PLEN ≤ LEN within IN_CAP, HASHBATCH (present) with both lengths within IN_CAP, their sum below 2^64 and 1 ≤
NBATCH ≤ N_CTX. Each answers the next state that is busy, has the latches the rule gives and upc at HINIT (RESUME for
POSTHASH); nothing else changes. (45_hash_sequencer.md R210, 46_optional_commands.md R230, 46_optional_commands.md R233,
46_optional_commands.md R235.) -/
def Obligations.HashCommandsAreAccepted : Prop :=
  ∀ (s : State), s.status.busy = false → s.status.configured = true →
    (s.len.toNat ≤ s.inst.inCap →
      exec .hash s = .next { s with
        status := busyStatus true, n := s.len, m := 0, nb := 1, cmd := 0x02, upc := 0xA0 })
    ∧ (s.inst.hasSplit = true → s.plen.toNat ≤ s.inst.inCap →
      exec .prehash s = .next { s with
        status := busyStatus true, n := s.plen, m := 0, nb := 1, cmd := 0x03, upc := 0xA0 })
    ∧ (s.inst.hasSplit = true → s.len.toNat ≤ s.inst.inCap → s.plen.toNat ≤ s.len.toNat →
      exec .posthash s = .next { s with
        status := busyStatus true, n := s.len, m := s.plen, nb := 1, cmd := 0x04, upc := 0xA3 })
    ∧ (s.inst.hasBatch = true → s.len.toNat ≤ s.inst.inCap → s.plen.toNat ≤ s.inst.inCap →
        s.plen.toNat + s.len.toNat < 2 ^ 64 → 1 ≤ s.nbatch.toNat → s.nbatch.toNat ≤ s.nCtx →
      exec .hashbatch s = .next { s with
        status := busyStatus true, n := s.plen + s.len, m := s.plen, nb := s.nbatch, cmd := 0x05, upc := 0xA0 })

/-! ### The register space -/

/-- For every state and every register number: (1) idle, a read of a reserved number or of CMD reads zero, and a write to a
reserved or read-only number changes nothing; (2) busy, every write changes nothing and a read of any register but STATUS
gives the free value of that read (log entries 6 and 19), while STATUS always reads its true value; (3) idle with CTXSEL ≥
N_CTX, the registers and windows of a context read zero and ignore writes; (4) a read changes nothing but the record of the
value read, and a write of a register other than CMD changes at most the argument and window registers, running words, HS, IN
and PFX. rdata and freeReads are the record of the model (log entries 6 and 8). (10_state.md R29, 10_state.md R28.) -/
def Obligations.RegisterAccessRules : Prop :=
  ∀ (s : State) (a : BitVec 8) (v : Word) (rest : List HostEvent),
    (s.status.busy = false → (a ∉ definedNumbers ∨ a = 0x00) →
      step { s with host := .rd a :: rest } = .next { s with host := rest, rdata := 0 })
    ∧ (s.status.busy = false → a ≠ 0x00 → a ∉ writableNumbers →
      step { s with host := .wr a v :: rest } = .next { s with host := rest })
    ∧ (s.status.busy = true → step { s with host := .wr a v :: rest } = .next { s with host := rest })
    ∧ (s.status.busy = true → a ≠ 0x01 →
      step { s with host := .rd a :: rest } =
        .next { s with host := rest, rdata := Config.busyRead s.freeReads, freeReads := s.freeReads + 1 })
    ∧ step { s with host := .rd 0x01 :: rest } = .next { s with host := rest, rdata := statusWord s.status }
    ∧ (s.status.busy = false → s.nCtx ≤ s.ctxsel.toNat → a ∈ contextNumbers →
      step { s with host := .rd a :: rest } = .next { s with host := rest, rdata := 0 }
        ∧ step { s with host := .wr a v :: rest } = .next { s with host := rest })
    ∧ (∀ t, step { s with host := .rd a :: rest } = .next t →
      t = { s with host := rest, rdata := t.rdata, freeReads := t.freeReads })
    ∧ (∀ t, a ≠ 0x00 → step { s with host := .wr a v :: rest } = .next t →
      t = { s with
        host := rest, argSeed := t.argSeed, argMapbits := t.argMapbits, argHashsize := t.argHashsize
        argPasses := t.argPasses, len := t.len, plen := t.plen, nbatch := t.nbatch, ctxsel := t.ctxsel
        waddr := t.waddr, ctxs := t.ctxs, pfx := t.pfx })

/-- For every value of the fields, the word a read of STATUS returns holds each field at its place and zero in bits 7:4 and
63:24. (10_state.md R27.) -/
def Obligations.StatusWordFields : Prop :=
  ∀ (t : Status),
    (statusWord t).getLsbD 0 = t.busy ∧ (statusWord t).getLsbD 1 = t.configured ∧ (statusWord t).getLsbD 2 = t.done
      ∧ (statusWord t).getLsbD 3 = t.err ∧ (statusWord t).extractLsb' 4 4 = 0
      ∧ (statusWord t).extractLsb' 8 8 = t.errcode ∧ (statusWord t).extractLsb' 16 8 = t.errinfo
      ∧ (statusWord t).extractLsb' 24 40 = 0

/-- For every idle state: the read of each number of the register map answers the next state whose rdata is the named
content, and nothing else but the host event changes. The configuration registers, MAPSIZE and MK read zero while CONFIGURED
is 0 (log entry 17); BM_DATA reads the cell WADDR AND MK when configured and zero when not; the windows of a context and PFX
read zero outside the memory. (10_state.md R28, 10_state.md R21, 10_state.md R30, 10_state.md R31.) -/
def Obligations.ReadsFollowTheRegisterMap : Prop :=
  ∀ (s : State) (rest : List HostEvent), s.status.busy = false →
    let config (v : Word) : Word := if s.status.configured = true then v else 0
    let word (f : Ctx → Word) : Word := match s.ctxs[s.ctxsel.toNat]? with
      | some c => f c
      | none => 0
    let cell (sp : ByteSpace) : Word := (s.peekByte sp s.waddr.toNat).setWidth 64
    ∀ x ∈ ([(0x00, 0), (0x01, statusWord s.status), (0x02, s.argSeed), (0x03, s.argMapbits), (0x04, s.argHashsize),
        (0x05, s.argPasses), (0x06, s.len), (0x07, s.plen), (0x08, s.nbatch),
        (0x10, config s.seed), (0x11, config s.mapSizeBits), (0x12, config s.hashSize), (0x13, config s.passes),
        (0x14, config s.mapSize), (0x15, config s.mask),
        (0x18, s.ctxsel), (0x19, s.waddr), (0x1A, word Ctx.as), (0x1B, word Ctx.s1), (0x1C, word Ctx.s2),
        (0x1D, word Ctx.s3),
        (0x20, config ((s.peekByte .bm (s.waddr &&& s.mask).toNat).setWidth 64)),
        (0x21, if s.ctxsel.toNat < s.nCtx ∧ s.waddr.toNat < s.inst.hsCap
          then s.peekLane s.ctxsel.toNat s.waddr.toNat else 0),
        (0x22, if s.ctxsel.toNat < s.nCtx ∧ s.waddr.toNat < s.inst.inCap then cell (.inp s.ctxsel.toNat) else 0),
        (0x23, if s.waddr.toNat < s.inst.inCap then cell .pfx else 0),
        (0x24, if s.ctxsel.toNat < s.nCtx ∧ s.waddr.toNat < s.inst.hsCap then cell (.out s.ctxsel.toNat) else 0),
        (0x30, BitVec.ofNat 64 s.inst.bmCapBits), (0x31, BitVec.ofNat 64 s.inst.hsCap),
        (0x32, BitVec.ofNat 64 (min s.inst.inCap (2 ^ 64 - 1))), (0x33, BitVec.ofNat 64 s.nCtx),
        (0x34, BitVec.ofNat 64 ((if s.inst.hasSplit = true then 1 else 0) + (if s.inst.hasBatch = true then 2 else 0)))]
        : List (BitVec 8 × Word)),
      step { s with host := .rd x.1 :: rest } = .next { s with host := rest, rdata := x.2 }

/-- For every idle state: a write of an argument register, CTXSEL or WADDR stores the whole 64-bit value; of AS, S1, S2, S3
writes that word of the context CTXSEL; of HS_DATA the whole lane; of IN_DATA and PFX_DATA bits 7:0 into the cell; a window
address outside the memory is ignored. Nothing else changes. (10_state.md R28, 10_state.md R30, 10_state.md R22.) -/
def Obligations.WritesFollowTheRegisterMap : Prop :=
  ∀ (s : State) (rest : List HostEvent) (v : Word), s.status.busy = false →
    (∀ x ∈ ([(0x02, { s with host := rest, argSeed := v }), (0x03, { s with host := rest, argMapbits := v }),
        (0x04, { s with host := rest, argHashsize := v }), (0x05, { s with host := rest, argPasses := v }),
        (0x06, { s with host := rest, len := v }), (0x07, { s with host := rest, plen := v }),
        (0x08, { s with host := rest, nbatch := v }), (0x18, { s with host := rest, ctxsel := v }),
        (0x19, { s with host := rest, waddr := v })] : List (BitVec 8 × State)),
      step { s with host := .wr x.1 v :: rest } = .next x.2)
    ∧ (∀ c, s.ctxs[s.ctxsel.toNat]? = some c →
      ∀ x ∈ ([(0x1A, { c with as := v }), (0x1B, { c with s1 := v }), (0x1C, { c with s2 := v }),
          (0x1D, { c with s3 := v })] : List (BitVec 8 × Ctx)),
        step { s with host := .wr x.1 v :: rest } =
          .next { s with host := rest, ctxs := s.ctxs.set s.ctxsel.toNat x.2 })
    ∧ (s.ctxsel.toNat < s.nCtx → s.waddr.toNat < s.inst.hsCap →
      ∃ t, step { s with host := .wr 0x21 v :: rest } = .next t ∧ t = { s with host := rest, ctxs := t.ctxs }
        ∧ laneWritten s t s.ctxsel.toNat s.waddr.toNat v)
    ∧ (s.ctxsel.toNat < s.nCtx → s.waddr.toNat < s.inst.inCap →
      ∃ t, step { s with host := .wr 0x22 v :: rest } = .next t ∧ t = { s with host := rest, ctxs := t.ctxs }
        ∧ byteWritten s t (.inp s.ctxsel.toNat) s.waddr.toNat (v.setWidth 8))
    ∧ (s.waddr.toNat < s.inst.inCap →
      ∃ t, step { s with host := .wr 0x23 v :: rest } = .next t ∧ t = { s with host := rest, pfx := t.pfx }
        ∧ byteWritten s t .pfx s.waddr.toNat (v.setWidth 8))
    ∧ (s.inst.hsCap ≤ s.waddr.toNat → step { s with host := .wr 0x21 v :: rest } = .next { s with host := rest })
    ∧ (s.inst.inCap ≤ s.waddr.toNat →
      step { s with host := .wr 0x22 v :: rest } = .next { s with host := rest }
        ∧ step { s with host := .wr 0x23 v :: rest } = .next { s with host := rest })

/-- For every state: an idle read of 0x30 to 0x34 returns BM_CAP_BITS, HS_CAP, IN_CAP (at most 2^64 − 1), N_CTX and the
feature bits; and every step leaves the instance constants and the number of contexts as they are. (R31.) -/
def Obligations.CapabilitiesNeverChange : Prop :=
  (∀ (s : State) (rest : List HostEvent), s.status.busy = false →
    ∀ x ∈ ([(0x30, BitVec.ofNat 64 s.inst.bmCapBits), (0x31, BitVec.ofNat 64 s.inst.hsCap),
        (0x32, BitVec.ofNat 64 (min s.inst.inCap (2 ^ 64 - 1))), (0x33, BitVec.ofNat 64 s.nCtx),
        (0x34, BitVec.ofNat 64 ((if s.inst.hasSplit = true then 1 else 0) + (if s.inst.hasBatch = true then 2 else 0)))]
        : List (BitVec 8 × Word)),
      step { s with host := .rd x.1 :: rest } = .next { s with host := rest, rdata := x.2 })
    ∧ ∀ (s t : State), step s = .next t → t.inst = s.inst ∧ t.nCtx = s.nCtx

/-! ### The builder -/

/-- For every state whose copies of the arguments are legal (1 ≤ hsz ≤ HS_CAP, 8 ≤ mb ≤ 34, mb ≤ BM_CAP_BITS): exec of CHECK
answers the next state with SEED, MAPSIZEBITS, HASHSIZE, PASSES as given, MAPSIZE = 2^mb, MK = 2^mb − 1, r the seed, i and ps
0, CONFIGURED 0 and upc at FILL; nothing else changes. (40_bytemap_builder.md R121.) -/
def Obligations.CheckLatchesTheConfiguration : Prop :=
  ∀ (s : State), 1 ≤ s.cHsz.toNat → s.cHsz.toNat ≤ s.inst.hsCap → 8 ≤ s.cMb.toNat → s.cMb.toNat ≤ 34 →
    s.cMb.toNat ≤ s.inst.bmCapBits →
    exec .check s = .next { s with
      status := { s.status with configured := false }
      seed := s.cSeed, mapSizeBits := s.cMb, hashSize := s.cHsz, passes := s.cPas
      mapSize := BitVec.ofNat 64 (2 ^ s.cMb.toNat), mask := BitVec.ofNat 64 (2 ^ s.cMb.toNat - 1)
      r := s.cSeed, i := 0, ps := 0
      upc := 0x21 }

/-- For every state, with unsigned comparisons on the copies: hsz = 0 ends INIT with ConfigurationError(1); else mb outside
8..34 with ConfigurationError(2); else hsz > HS_CAP with ConfigurationError(3); else mb > BM_CAP_BITS with
AllocationFailure(0). In each the six configuration registers and CONFIGURED are zero, the block is idle and nothing else
changes. In every other case no error is recorded (STATUS is as before but for CONFIGURED) and FILL follows, whatever the
seed and the passes. (R252.) -/
def Obligations.CheckReportsTheFirstCause : Prop :=
  ∀ (s : State),
    let failed (code info : Byte) : Result := .next { s with
      status := failedStatus false code info
      seed := 0, mapSizeBits := 0, hashSize := 0, passes := 0, mapSize := 0, mask := 0
      upc := 0 }
    if s.cHsz.toNat = 0 then exec .check s = failed 1 1
    else if s.cMb.toNat < 8 ∨ 34 < s.cMb.toNat then exec .check s = failed 1 2
    else if s.inst.hsCap < s.cHsz.toNat then exec .check s = failed 1 3
    else if s.inst.bmCapBits < s.cMb.toNat then exec .check s = failed 2 0
    else ∃ t, exec .check s = .next t ∧ t.status = { s.status with configured := false } ∧ t.upc = 0x21

/-- For every state with i inside the RAM: exec of FILL answers a next state in which BM[i] is i mod 256 and every other cell
of every memory and every running word is as before; i + 1 < MAPSIZE: i is incremented and FILL follows; else i is 0 and INIT
ends successfully if PASSES is 0 and SHUF follows if not. Nothing else changes. (R124.) -/
def Obligations.FillWritesOneCell : Prop :=
  ∀ (s : State), s.i.toNat < 2 ^ s.inst.bmCapBits →
    ∃ t, exec .fill s = .next t
      ∧ byteWritten s t .bm s.i.toNat (BitVec.ofNat 8 (s.i.toNat % 256))
      ∧ t = (if (s.i + 1).toNat < s.mapSize.toNat then { s with bm := t.bm, i := s.i + 1, upc := 0x21 }
        else if s.passes = 0 then
          { s with bm := t.bm, i := 0, upc := 0
                   status := { s.status with configured := true, done := true, busy := false } }
        else { s with bm := t.bm, i := 0, upc := 0x22 })

/-- For every state with i and MK inside the RAM, q being what SHUF_F gives for r, i, ps, the table and MK: exec of SHUF
answers a next state in which r and j are q, BM[i] holds what BM[j] held and BM[j] what BM[i] held, every other cell of every
memory and every running word is as before; i is incremented and wraps to 0 at MAPSIZE with ps incremented; INIT ends
successfully if then ps = PASSES, else SHUF follows. Nothing else changes. (R127.) -/
def Obligations.ShuffleExchangesTwoCells : Prop :=
  ∀ (s : State), s.i.toNat < 2 ^ s.inst.bmCapBits → s.mask.toNat < 2 ^ s.inst.bmCapBits →
    let q := shufF s.inst.shuf s.r s.i s.ps (fun a => s.peekByte .bm a.toNat) s.mask
    let i' : Word := if s.i + 1 = s.mapSize then 0 else s.i + 1
    let ps' : Word := if s.i + 1 = s.mapSize then s.ps + 1 else s.ps
    ∃ t, exec .shuf s = .next t
      ∧ t.peekByte .bm s.i.toNat = s.peekByte .bm q.2.toNat
      ∧ t.peekByte .bm q.2.toNat = s.peekByte .bm s.i.toNat
      ∧ (∀ sp a, ¬(sp = .bm ∧ (a = s.i.toNat ∨ a = q.2.toNat)) → t.peekByte sp a = s.peekByte sp a)
      ∧ t = (if ps' = s.passes then
          { s with bm := t.bm, r := q.1, j := q.2, i := i', ps := ps', upc := 0
                   status := { s.status with configured := true, done := true, busy := false } }
        else { s with bm := t.bm, r := q.1, j := q.2, i := i', ps := ps', upc := 0x22 })

/-- For either choice of stepping function (the default of the spec, or any other, a free value): it is a function of r, i,
ps, the table and MK; its index is at most MK; and its value is the same for two tables that agree at the addresses at most
MK. Being a function of values it writes no cell. (R125.) -/
def Obligations.SteppingFunctionMeetsItsContract : Prop :=
  ∀ (c : ShufChoice) (r i ps : Word) (bm bm' : Word → Byte) (mk : Word),
    (shufF c r i ps bm mk).2.toNat ≤ mk.toNat
      ∧ ((∀ a : Word, a.toNat ≤ mk.toNat → bm a = bm' a) → shufF c r i ps bm mk = shufF c r i ps bm' mk)

/-! ### The probe, the rotation and FastStep -/

/-- For every state with legal configuration registers and every word v: the probe answers the byte of the cell v mod
2^MAPSIZEBITS = v AND MK, zero-extended, a word below 256; that cell exists; and two words that agree in the low MAPSIZEBITS
bits read the same. (R140.) -/
def Obligations.ProbeReadsTheMaskedCell : Prop :=
  ∀ (s : State), configOk s → ∀ v : Word,
    (v &&& s.mask).toNat = v.toNat % 2 ^ s.mapSizeBits.toNat
      ∧ v.toNat % 2 ^ s.mapSizeBits.toNat < 2 ^ s.inst.bmCapBits
      ∧ probe s v = some ((s.peekByte .bm (v &&& s.mask).toNat).setWidth 64)
      ∧ (tableOf s v).toNat < 256
      ∧ ∀ w : Word, w.toNat % 2 ^ s.mapSizeBits.toNat = v.toNat % 2 ^ s.mapSizeBits.toNat → probe s w = probe s v

/-- For every state with current context c: FS.ROT, and ST.ROT in pass 2, answer the next state with s1, s2, s3 of the
context the old s3, s1, s2, then LDIN of the next context or ADV after the last; ST.ROT in pass 3 goes to RED.EMIT. Nothing
else changes; as, hs, idx, v2 in particular do not. The rotation done three times is the identity. (R142.) -/
def Obligations.RotationMovesThreeWords : Prop :=
  (∀ (s : State) (c : Ctx), s.ctxs[s.kc.toNat]? = some c →
    let ctxs' := s.ctxs.set s.kc.toNat { c with s1 := c.s3, s2 := c.s1, s3 := c.s2 }
    let follow : State := if s.kc.toNat + 1 < s.nb.toNat then { s with ctxs := ctxs', kc := s.kc + 1, upc := 0xA1 }
      else { s with ctxs := ctxs', kc := 0, upc := 0xA2 }
    exec .fsRot s = .next follow
      ∧ (s.ph = 2 → exec .stRot s = .next follow)
      ∧ (s.ph = 3 → exec .stRot s = .next { s with ctxs := ctxs', upc := 0x81 }))
    ∧ ∀ c : Ctx, rotate (rotate (rotate c)) = c

/-- For every state with current context c (probes in range for FS.B, the lane hs[idx] present for FS.S1 and FS.HS): FS.B
writes bt alone, FS.AS writes as alone, FS.S1 writes s1 alone, FS.HS writes the lane hs[idx] alone, each with the value of
its rule, and the next line follows; nothing else changes. (R151, R152, R153, R154.) -/
def Obligations.FastStepLines : Prop :=
  ∀ (s : State) (c : Ctx), s.ctxs[s.kc.toNat]? = some c →
    (s.mask.toNat < 2 ^ s.inst.bmCapBits →
      exec .fsB s = .next { s with bt := tableOf s (c.as ^^^ s.v2), upc := 0x42 })
    ∧ exec .fsAs s = .next { s with
        ctxs := s.ctxs.set s.kc.toNat { c with
          as := (c.as <<< 7) ^^^ (c.as >>> 5) ^^^ (s.v2 <<< 20) ^^^ (s.v2 <<< 16) ^^^ s.v2
            ^^^ (s.bt <<< 20) ^^^ (s.bt <<< 12) ^^^ (s.bt <<< 4) }
        upc := 0x43 }
    ∧ (s.idx.toNat < s.inst.hsCap →
      exec .fsS1 s = .next { s with
        ctxs := s.ctxs.set s.kc.toNat { c with
          s1 := (c.s1 <<< 9) ^^^ (c.s1 >>> 3) ^^^ s.peekLane s.kc.toNat s.idx.toNat }
        upc := 0x44 })
    ∧ (s.idx.toNat < s.inst.hsCap →
      ∃ t, exec .fsHs s = .next t ∧ t = { s with ctxs := t.ctxs, upc := 0x45 }
        ∧ laneWritten s t s.kc.toNat s.idx.toNat (c.s1 ^^^ c.as))

/-- From every state at FS.B with current context c, probes in range, the lane hs[idx] present and the host silent, five
steps end in a state whose words and lane are fastStepFn (the listing of R150 as a function) of the old words, the old lane,
v2 and the table; no other lane, no byte and no other context changes, nothing else but bt changes, and LDIN of the next
context or ADV follows. (42_faststep.md R150, 42_faststep.md R156, 30_encoding.md R98.) -/
def Obligations.FastStepIsItsListing : Prop :=
  ∀ (s : State) (c : Ctx), probing s c → s.idx.toNat < s.inst.hsCap → s.host = [] → s.upc = 0x41 →
    let y := fastStepFn (tableOf s) s.v2 (mixOf s c)
    ∃ t d, runSteps 5 s = .next t ∧ t.ctxs[s.kc.toNat]? = some d
        ∧ wordsOf d = (y.as, y.s1, y.s2, y.s3)
        ∧ t.peekLane s.kc.toNat s.idx.toNat = y.lane
        ∧ (∀ k q, ¬(k = s.kc.toNat ∧ q = s.idx.toNat) → t.peekLane k q = s.peekLane k q)
        ∧ (∀ sp a, t.peekByte sp a = s.peekByte sp a)
        ∧ (∀ k, k ≠ s.kc.toNat → t.ctxs[k]? = s.ctxs[k]?)
        ∧ t = (if s.kc.toNat + 1 < s.nb.toNat then { s with ctxs := t.ctxs, bt := t.bt, kc := s.kc + 1, upc := 0xA1 }
          else { s with ctxs := t.ctxs, bt := t.bt, kc := 0, upc := 0xA2 })

/-! ### Step -/

/-- For every state with current context c (probes in range for a probing line, the lane hs[idx] present for a line that
names it): each of ST.L01 to ST.L05 answers the next state in which its destination has the value of its rule, computed from
the old values, upc is the next line, and nothing else changes. (R162, R163, R164, R165, R166.) -/
def Obligations.StepLinesOneToFive : Prop :=
  ∀ (s : State) (c : Ctx), s.ctxs[s.kc.toNat]? = some c →
    let h := s.peekLane s.kc.toNat s.idx.toNat
    (s.mask.toNat < 2 ^ s.inst.bmCapBits →
      exec .stL01 s = .next { s with
        ctxs := s.ctxs.set s.kc.toNat { c with
          s1 := (c.s1 <<< 9) ^^^ (c.s1 >>> 1) ^^^ c.as ^^^ (tableOf s ((c.as >>> 5) ^^^ s.v2) <<< 3) }
        upc := 0x62 })
    ∧ (s.mask.toNat < 2 ^ s.inst.bmCapBits →
      exec .stL02 s = .next { s with
        ctxs := s.ctxs.set s.kc.toNat { c with
          s1 := (c.s1 <<< 5) ^^^ (c.s1 >>> 3) ^^^ (tableOf s (c.s1 ^^^ s.v2) <<< 7) }
        upc := 0x63 })
    ∧ (s.mask.toNat < 2 ^ s.inst.bmCapBits →
      exec .stL03 s = .next { s with
        ctxs := s.ctxs.set s.kc.toNat { c with
          s1 := (c.s1 <<< 7) ^^^ (c.s1 >>> 7) ^^^ (tableOf s (c.as ^^^ (c.s1 >>> 7)) <<< 5) }
        upc := 0x64 })
    ∧ (s.mask.toNat < 2 ^ s.inst.bmCapBits →
      exec .stL04 s = .next { s with
        ctxs := s.ctxs.set s.kc.toNat { c with
          s1 := (c.s1 <<< 11) ^^^ (c.s1 >>> 5) ^^^ (tableOf s (s.v2 ^^^ (c.as >>> 11) ^^^ c.s1) <<< 27) }
        upc := 0x65 })
    ∧ (s.idx.toNat < s.inst.hsCap →
      ∃ t, exec .stL05 s = .next t ∧ t = { s with ctxs := t.ctxs, upc := 0x66 }
        ∧ laneWritten s t s.kc.toNat s.idx.toNat
          (c.s1 ^^^ c.as ^^^ (h <<< 7) ^^^ (h >>> 13)))

/-- For every state with current context c (probes in range for a probing line, the lane hs[idx] present for a line that
names it): each of ST.L06 to ST.L13 answers the next state in which its destination has the value of its rule, computed from
the old values, upc is the next line, and nothing else changes. (R167, R168, R169, R170, R171, R172, R173, R174.) -/
def Obligations.StepLinesSixToThirteen : Prop :=
  ∀ (s : State) (c : Ctx), s.ctxs[s.kc.toNat]? = some c →
    (s.mask.toNat < 2 ^ s.inst.bmCapBits →
      exec .stL06 s = .next { s with
        ctxs := s.ctxs.set s.kc.toNat { c with
          as := (c.as <<< 17) ^^^ (c.as >>> 5) ^^^ c.s1 ^^^ (tableOf s (c.as ^^^ (c.s1 >>> 27) ^^^ s.v2) <<< 3) }
        upc := 0x67 })
    ∧ (s.mask.toNat < 2 ^ s.inst.bmCapBits →
      exec .stL07 s = .next { s with
        ctxs := s.ctxs.set s.kc.toNat { c with
          as := (c.as <<< 13) ^^^ (c.as >>> 3) ^^^ (tableOf s (c.as ^^^ c.s1) <<< 7) }
        upc := 0x68 })
    ∧ (s.mask.toNat < 2 ^ s.inst.bmCapBits →
      exec .stL08 s = .next { s with
        ctxs := s.ctxs.set s.kc.toNat { c with
          as := (c.as <<< 15) ^^^ (c.as >>> 7) ^^^ (tableOf s ((c.as >>> 7) ^^^ c.s1) <<< 11) }
        upc := 0x69 })
    ∧ (s.mask.toNat < 2 ^ s.inst.bmCapBits →
      exec .stL09 s = .next { s with
        ctxs := s.ctxs.set s.kc.toNat { c with
          as := (c.as <<< 9) ^^^ (c.as >>> 11) ^^^ (tableOf s (s.v2 ^^^ c.as ^^^ c.s1) <<< 3) }
        upc := 0x6A })
    ∧ (s.mask.toNat < 2 ^ s.inst.bmCapBits →
      exec .stL10 s = .next { s with
        ctxs := s.ctxs.set s.kc.toNat { c with
          s1 := (c.s1 <<< 7) ^^^ (c.s1 >>> 27) ^^^ c.as ^^^ (tableOf s (c.as >>> 3) <<< 13) }
        upc := 0x6B })
    ∧ (s.mask.toNat < 2 ^ s.inst.bmCapBits →
      exec .stL11 s = .next { s with
        ctxs := s.ctxs.set s.kc.toNat { c with
          s1 := (c.s1 <<< 3) ^^^ (c.s1 >>> 13) ^^^ (tableOf s (c.s1 ^^^ s.v2) <<< 11) }
        upc := 0x6C })
    ∧ (s.mask.toNat < 2 ^ s.inst.bmCapBits →
      exec .stL12 s = .next { s with
        ctxs := s.ctxs.set s.kc.toNat { c with
          s1 := (c.s1 <<< 8) ^^^ (c.s1 >>> 11) ^^^ (tableOf s (c.as ^^^ (c.s1 >>> 11)) <<< 9) }
        upc := 0x6D })
    ∧ (s.mask.toNat < 2 ^ s.inst.bmCapBits →
      exec .stL13 s = .next { s with
        ctxs := s.ctxs.set s.kc.toNat { c with
          s1 := (c.s1 <<< 6) ^^^ (c.s1 >>> 9) ^^^ (tableOf s (s.v2 ^^^ c.as ^^^ c.s1) <<< 3) }
        upc := 0x6E })

/-- For every state with current context c (probes in range for a probing line, the lane hs[idx] present for a line that
names it): each of ST.L14 to ST.L21 answers the next state in which its destination has the value of its rule, computed from
the old values, upc is the next line, and nothing else changes. (R175, R176, R177, R178, R179, R180, R181, R182.) -/
def Obligations.StepLinesFourteenToTwentyOne : Prop :=
  ∀ (s : State) (c : Ctx), s.ctxs[s.kc.toNat]? = some c →
    (s.mask.toNat < 2 ^ s.inst.bmCapBits →
      exec .stL14 s = .next { s with
        ctxs := s.ctxs.set s.kc.toNat { c with
          as := (c.as <<< 23) ^^^ (c.as >>> 3) ^^^ c.s1 ^^^ (tableOf s (c.as ^^^ s.v2 ^^^ (c.s1 >>> 3)) <<< 7) }
        upc := 0x6F })
    ∧ (s.mask.toNat < 2 ^ s.inst.bmCapBits →
      exec .stL15 s = .next { s with
        ctxs := s.ctxs.set s.kc.toNat { c with
          as := (c.as <<< 17) ^^^ (c.as >>> 7) ^^^ (tableOf s (c.as ^^^ (c.s1 >>> 3)) <<< 5) }
        upc := 0x70 })
    ∧ (s.mask.toNat < 2 ^ s.inst.bmCapBits →
      exec .stL16 s = .next { s with
        ctxs := s.ctxs.set s.kc.toNat { c with
          as := (c.as <<< 13) ^^^ (c.as >>> 5) ^^^ (tableOf s ((c.as >>> 5) ^^^ c.s1) <<< 1) }
        upc := 0x71 })
    ∧ (s.mask.toNat < 2 ^ s.inst.bmCapBits →
      exec .stL17 s = .next { s with
        ctxs := s.ctxs.set s.kc.toNat { c with
          as := (c.as <<< 11) ^^^ (c.as >>> 1) ^^^ (tableOf s (s.v2 ^^^ c.as ^^^ c.s1) <<< 7) }
        upc := 0x72 })
    ∧ (s.mask.toNat < 2 ^ s.inst.bmCapBits →
      exec .stL18 s = .next { s with
        ctxs := s.ctxs.set s.kc.toNat { c with
          s1 := (c.s1 <<< 5) ^^^ (c.s1 >>> 3) ^^^ c.as ^^^ (tableOf s ((c.as >>> 7) ^^^ (c.s1 >>> 3)) <<< 6) }
        upc := 0x73 })
    ∧ (s.mask.toNat < 2 ^ s.inst.bmCapBits →
      exec .stL19 s = .next { s with
        ctxs := s.ctxs.set s.kc.toNat { c with
          s1 := (c.s1 <<< 8) ^^^ (c.s1 >>> 6) ^^^ (tableOf s (c.s1 ^^^ s.v2) <<< 11) }
        upc := 0x74 })
    ∧ (s.mask.toNat < 2 ^ s.inst.bmCapBits →
      exec .stL20 s = .next { s with
        ctxs := s.ctxs.set s.kc.toNat { c with
          s1 := (c.s1 <<< 11) ^^^ (c.s1 >>> 11) ^^^ (tableOf s (c.as ^^^ (c.s1 >>> 11)) <<< 5) }
        upc := 0x75 })
    ∧ (s.mask.toNat < 2 ^ s.inst.bmCapBits →
      exec .stL21 s = .next { s with
        ctxs := s.ctxs.set s.kc.toNat { c with
          s1 := (c.s1 <<< 7) ^^^ (c.s1 >>> 5) ^^^ (tableOf s (s.v2 ^^^ (c.as >>> 7) ^^^ c.as ^^^ c.s1) <<< 17) }
        upc := 0x76 })

/-- For every state with current context c (probes in range for a probing line, the lane hs[idx] present for a line that
names it): each of ST.L22 to ST.L27 answers the next state in which its destination has the value of its rule, computed from
the old values, upc is the next line, and nothing else changes. (R183, R184, R185, R186, R187, R188.) -/
def Obligations.StepLinesTwentyTwoToTwentySeven : Prop :=
  ∀ (s : State) (c : Ctx), s.ctxs[s.kc.toNat]? = some c →
    let h := s.peekLane s.kc.toNat s.idx.toNat
    (s.mask.toNat < 2 ^ s.inst.bmCapBits →
      exec .stL22 s = .next { s with
        ctxs := s.ctxs.set s.kc.toNat { c with
          s2 := (c.s2 <<< 3) ^^^ (c.s2 >>> 17) ^^^ c.s1 ^^^ (tableOf s (c.as ^^^ (c.s2 >>> 5) ^^^ s.v2) <<< 13) }
        upc := 0x77 })
    ∧ (s.mask.toNat < 2 ^ s.inst.bmCapBits →
      exec .stL23 s = .next { s with
        ctxs := s.ctxs.set s.kc.toNat { c with
          s2 := (c.s2 <<< 6) ^^^ (c.s2 >>> 13) ^^^ (tableOf s (c.s2) <<< 11) }
        upc := 0x78 })
    ∧ (s.mask.toNat < 2 ^ s.inst.bmCapBits →
      exec .stL24 s = .next { s with
        ctxs := s.ctxs.set s.kc.toNat { c with
          s2 := (c.s2 <<< 11) ^^^ (c.s2 >>> 11) ^^^ (tableOf s (c.as ^^^ c.s1 ^^^ (c.s2 >>> 11)) <<< 23) }
        upc := 0x79 })
    ∧ (s.mask.toNat < 2 ^ s.inst.bmCapBits →
      exec .stL25 s = .next { s with
        ctxs := s.ctxs.set s.kc.toNat { c with
          s2 := (c.s2 <<< 4) ^^^ (c.s2 >>> 23) ^^^ (tableOf s (s.v2 ^^^ (c.as >>> 8) ^^^ c.as ^^^ (c.s2 >>> 10)) <<< 1) }
        upc := 0x7A })
    ∧ (s.idx.toNat < s.inst.hsCap →
      exec .stL26 s = .next { s with
        ctxs := s.ctxs.set s.kc.toNat { c with
          s1 := (c.s2 <<< 3) ^^^ (c.s2 >>> 1) ^^^ h ^^^ s.v2 }
        upc := 0x7B })
    ∧ (s.mask.toNat < 2 ^ s.inst.bmCapBits → s.idx.toNat < s.inst.hsCap →
      exec .stL27 s = .next { s with
        ctxs := s.ctxs.set s.kc.toNat { c with
          as := (c.as <<< 9) ^^^ (c.as >>> 7) ^^^ (c.s1 >>> 1) ^^^ (tableOf s ((c.s2 >>> 1) ^^^ h) <<< 5) }
        upc := 0x7C })

/-- For every row of the table of R161 (destination, XOR terms, probe index terms, probe shift, next line), transcribed as
data and read by an interpreter of its own, and for every state with current context c, probes in range and the lane hs[idx]
present: exec of the line of the row (ST.L01 to ST.L27) answers the state the row gives. (43_step.md R161.) -/
def Obligations.StepLinesFollowTheSchedule : Prop :=
  scheduleTable.map Row.line =
      [.stL01, .stL02, .stL03, .stL04, .stL05, .stL06, .stL07, .stL08, .stL09, .stL10, .stL11, .stL12, .stL13, .stL14,
        .stL15, .stL16, .stL17, .stL18, .stL19, .stL20, .stL21, .stL22, .stL23, .stL24, .stL25, .stL26, .stL27]
    ∧ ∀ row ∈ scheduleTable, ∀ (s : State) (c : Ctx), probing s c → s.idx.toNat < s.inst.hsCap →
        exec row.line s = .next (row.apply s c)

/-- From every state at ST.L01 in pass 2 or 3 with current context c, probes in range, the lane hs[idx] present and the host
silent, 28 steps end in a state whose words and lane are stepFn (the listing of R160 as a function) of the old words, the old
lane, v2 and the table; no other lane, no byte, no other context and nothing else changes; LDIN of the next context or ADV
follows in pass 2, RED.EMIT in pass 3. (43_step.md R160, 43_step.md R190, 43_step.md R189.) -/
def Obligations.StepIsItsListing : Prop :=
  ∀ (s : State) (c : Ctx), probing s c → s.idx.toNat < s.inst.hsCap → s.host = [] → s.upc = 0x61 →
    (s.ph = 2 ∨ s.ph = 3) →
    let y := stepFn (tableOf s) s.v2 (mixOf s c)
    ∃ t d, runSteps 28 s = .next t ∧ t.ctxs[s.kc.toNat]? = some d
        ∧ wordsOf d = (y.as, y.s1, y.s2, y.s3)
        ∧ t.peekLane s.kc.toNat s.idx.toNat = y.lane
        ∧ (∀ k q, ¬(k = s.kc.toNat ∧ q = s.idx.toNat) → t.peekLane k q = s.peekLane k q)
        ∧ (∀ sp a, t.peekByte sp a = s.peekByte sp a)
        ∧ (∀ k, k ≠ s.kc.toNat → t.ctxs[k]? = s.ctxs[k]?)
        ∧ t = (if s.ph = 3 then { s with ctxs := t.ctxs, upc := 0x81 }
          else if s.kc.toNat + 1 < s.nb.toNat then { s with ctxs := t.ctxs, kc := s.kc + 1, upc := 0xA1 }
          else { s with ctxs := t.ctxs, kc := 0, upc := 0xA2 })

/-! ### Reduction and sequencer -/

/-- RED.LOAD, for every state whose lane i of the current context exists: v2 is the whole lane, idx is i, ST.L01 follows,
nothing else changes. RED.EMIT, for every state with current context c, probes in range and lane i present: OUT[kc][i]
becomes the XOR of the bytes at as AND MK and at hs[i] AND MK, every other cell, lane and word is as before; then the next
context (RED.LOAD), or the next lower i with context 0, or the end of the command if i is 0 before the decrement. Nothing
else changes. (R201, R202.) -/
def Obligations.ReductionLoadsAndEmits : Prop :=
  (∀ (s : State), s.kc.toNat < s.nCtx → s.i.toNat < s.inst.hsCap →
    exec .redLoad s = .next { s with v2 := s.peekLane s.kc.toNat s.i.toNat, idx := s.i, upc := 0x61 })
    ∧ ∀ (s : State) (c : Ctx), probing s c → s.i.toNat < s.inst.hsCap →
      ∃ t, exec .redEmit s = .next t
        ∧ byteWritten s t (.out s.kc.toNat) s.i.toNat
          (s.peekByte .bm (c.as &&& s.mask).toNat
            ^^^ s.peekByte .bm (s.peekLane s.kc.toNat s.i.toNat &&& s.mask).toNat)
        ∧ t = (if s.kc.toNat + 1 < s.nb.toNat then { s with ctxs := t.ctxs, kc := s.kc + 1, upc := 0x80 }
          else if 0 < s.i.toNat then { s with ctxs := t.ctxs, kc := 0, i := s.i - 1, upc := 0x80 }
          else { s with ctxs := t.ctxs, kc := 0, upc := 0, status := { s.status with done := true, busy := false } })

/-- For every state with nb at most N_CTX and HASHSIZE at most HS_CAP: exec of HINIT answers DECIDE of a state u in which
contexts below nb have as = SEED, s1 = s2 = s3 = 0 and lanes 0..HASHSIZE−1 zero; lanes at or above HASHSIZE, contexts at or
above nb and every byte are as before; p, idx, kc are 0, ph is 1, and nothing else changes. (R211.) -/
def Obligations.HinitLoadsTheInitialState : Prop :=
  ∀ (s : State), s.nb.toNat ≤ s.nCtx → s.hashSize.toNat ≤ s.inst.hsCap →
    ∃ u, exec .hinit s = .next (decideNext u)
      ∧ u = { s with ctxs := u.ctxs, p := 0, idx := 0, kc := 0, ph := 1 } ∧ u.nCtx = s.nCtx
      ∧ (∀ k, k < s.nb.toNat → (u.ctxs[k]?).map wordsOf = some (s.seed, 0, 0, 0))
      ∧ (∀ k, s.nb.toNat ≤ k → u.ctxs[k]? = s.ctxs[k]?)
      ∧ (∀ k q, u.peekLane k q = if k < s.nb.toNat ∧ q < s.hashSize.toNat then 0 else s.peekLane k q)
      ∧ ∀ sp a, u.peekByte sp a = s.peekByte sp a

/-- For every state: DECIDE goes to LDIN if p < n; ends the command (DONE, idle) if ph is 1 and the command is PREHASH;
starts pass 2 at position 0 if ph is 1 and n > 0; and otherwise starts pass 3 at lane HASHSIZE − 1. (45_hash_sequencer.md
R212, 45_hash_sequencer.md R215.) -/
def Obligations.DecideChoosesTheSuccessor : Prop :=
  ∀ (s : State),
    decideNext s =
      if s.p.toNat < s.n.toNat then { s with upc := 0xA1 }
      else if s.ph = 1 ∧ s.cmd = 0x03 then { s with upc := 0, status := { s.status with done := true, busy := false } }
      else if s.ph = 1 ∧ 0 < s.n.toNat then { s with ph := 2, p := 0, idx := 0, upc := 0xA1 }
      else { s with ph := 3, i := s.hashSize - 1, upc := 0x80 }

/-- For every state: in HASHBATCH below position m the byte is PFX[p], at or above it IN[kc][p − m], and in every other
command IN[0][p] (where those cells exist); v2 becomes the byte zero-extended, FS.B follows if ph is 1 and ST.L01 if not, and
nothing else changes. (R213.) -/
def Obligations.LdinFetchesTheInputByte : Prop :=
  ∀ (s : State),
    let loaded (b : Byte) : State :=
      { s with v2 := b.setWidth 64, upc := if s.ph = 1 then 0x41 else 0x61 }
    (s.cmd = 0x05 → s.p.toNat < s.m.toNat → s.p.toNat < s.inst.inCap →
      exec .ldin s = .next (loaded (s.peekByte .pfx s.p.toNat)))
    ∧ (s.cmd = 0x05 → s.m.toNat ≤ s.p.toNat → s.kc.toNat < s.nCtx → s.p.toNat - s.m.toNat < s.inst.inCap →
      exec .ldin s = .next (loaded (s.peekByte (.inp s.kc.toNat) (s.p.toNat - s.m.toNat))))
    ∧ (s.cmd ≠ 0x05 → 0 < s.nCtx → s.p.toNat < s.inst.inCap →
      exec .ldin s = .next (loaded (s.peekByte (.inp 0) s.p.toNat)))

/-- For every state: exec of ADV answers DECIDE of the state with p + 1 and idx + 1, idx back to 0 when it reaches HASHSIZE;
exec of RESUME (HASHSIZE not 0) answers DECIDE of the state with p = m, idx = m mod HASHSIZE, kc = 0, ph = 1. Nothing else
changes; if idx = p mod HASHSIZE before ADV with 0 < HASHSIZE and p below 2^64 − 1, then so it is after.
(45_hash_sequencer.md R214, 46_optional_commands.md R232.) -/
def Obligations.AdvAndResumeSetThePosition : Prop :=
  ∀ (s : State),
    let q : State := { s with p := s.p + 1, idx := if s.idx + 1 = s.hashSize then 0 else s.idx + 1 }
    exec .adv s = .next (decideNext q)
    ∧ (s.hashSize ≠ 0 → s.p.toNat + 1 < 2 ^ 64 → s.idx.toNat = s.p.toNat % s.hashSize.toNat →
        q.idx.toNat = q.p.toNat % q.hashSize.toNat)
    ∧ (s.hashSize ≠ 0 →
      exec .resume s = .next (decideNext { s with
        p := s.m, idx := BitVec.ofNat 64 (s.m.toNat % s.hashSize.toNat), kc := 0, ph := 1 }))

/-! ### What operations leave alone -/

/-- For every operation (all 47) and every state where it answers a next state: the seven argument registers, CTXSEL, WADDR,
the instance constants, the number of contexts and PFX are as before, and so are the four fields of the model; the six
configuration registers are as before unless the operation is CHECK. (10_state.md R21, 10_state.md R22, 10_state.md R31,
40_bytemap_builder.md R120, 45_hash_sequencer.md R210.) -/
def Obligations.OperationsLeaveRegistersAlone : Prop :=
  ∀ (i : Instr) (s t : State), exec i s = .next t →
    t.argSeed = s.argSeed ∧ t.argMapbits = s.argMapbits ∧ t.argHashsize = s.argHashsize ∧ t.argPasses = s.argPasses
      ∧ t.len = s.len ∧ t.plen = s.plen ∧ t.nbatch = s.nbatch ∧ t.ctxsel = s.ctxsel ∧ t.waddr = s.waddr
      ∧ t.inst = s.inst ∧ t.nCtx = s.nCtx ∧ t.pfx = s.pfx
      ∧ t.host = s.host ∧ t.rdata = s.rdata ∧ t.freeReads = s.freeReads ∧ t.epoch = s.epoch
      ∧ (i ≠ .check →
          t.seed = s.seed ∧ t.mapSizeBits = s.mapSizeBits ∧ t.hashSize = s.hashSize ∧ t.passes = s.passes
            ∧ t.mapSize = s.mapSize ∧ t.mask = s.mask)

/-- For every operation and every state where it answers a next state: v2 changes only in LDIN and RED.LOAD, bt only in FS.B,
r only in CHECK and SHUF, j only in SHUF, cmd, n, m and nb only when a command is accepted, and the copies CHECK works on
(log entry 9) only in INIT. (10_state.md R26, 40_bytemap_builder.md R121.) -/
def Obligations.LatchesHaveTheirLoaders : Prop :=
  ∀ (i : Instr) (s t : State), exec i s = .next t →
    (i ≠ .ldin → i ≠ .redLoad → t.v2 = s.v2) ∧ (i ≠ .fsB → t.bt = s.bt) ∧ (i ≠ .check → i ≠ .shuf → t.r = s.r)
      ∧ (i ≠ .shuf → t.j = s.j)
      ∧ (i ∉ commands → t.cmd = s.cmd ∧ t.n = s.n ∧ t.m = s.m ∧ t.nb = s.nb)
      ∧ (i ≠ .init → t.cSeed = s.cSeed ∧ t.cMb = s.cMb ∧ t.cHsz = s.cHsz ∧ t.cPas = s.cPas)

/-- For every operation and every state where it answers a next state: a context other than kc (for HINIT: at or above nb) is
unchanged as a whole; in context kc, as changes only in FS.AS and the nine Step lines that write it (never by a rotation),
s1, s2 and s3 only in their lines and the rotations, or in HINIT. (10_state.md R23, 46_optional_commands.md R236,
41_lookup_and_rotation.md R142.) -/
def Obligations.WordsHaveTheirWriters : Prop :=
  ∀ (i : Instr) (s t : State), exec i s = .next t →
    (i ≠ .hinit → ∀ k, k ≠ s.kc.toNat → t.ctxs[k]? = s.ctxs[k]?)
      ∧ (i = .hinit → ∀ k, s.nb.toNat ≤ k → t.ctxs[k]? = s.ctxs[k]?)
      ∧ (i ≠ .hinit → ∀ c d, s.ctxs[s.kc.toNat]? = some c → t.ctxs[s.kc.toNat]? = some d →
          (i ∉ asWriters → d.as = c.as) ∧ (i ∉ s1Writers → d.s1 = c.s1) ∧ (i ∉ s2Writers → d.s2 = c.s2)
            ∧ (i ∉ s3Writers → d.s3 = c.s3))

/-- For every operation (all 47) and every state where it answers a next state: every byte other than the cells it stores to
(FILL: BM[i]; SHUF: BM[i] and BM[j], j being what SHUF_F gives; RED.EMIT: OUT[kc][i]; every other operation: none) and every
lane other than those it stores to (HINIT: lanes 0..HASHSIZE−1 of contexts below nb; FS.HS and ST.L05: lane idx of context
kc; every other operation: none) reads as before. (20_memory.md R64, 10_state.md R33, 20_memory.md R66.) -/
def Obligations.OperationsStoreOnlyTheirCells : Prop :=
  ∀ (i : Instr) (s t : State), exec i s = .next t →
    (∀ sp a, ¬storesByte i s sp a → t.peekByte sp a = s.peekByte sp a)
      ∧ ∀ k a, ¬storesLane i s k a → t.peekLane k a = s.peekLane k a

/-- For every operation of a hash command and every two states that agree on upc, p, idx, i, kc, ph, cmd, n, m, nb and
HASHSIZE, and may differ in everything else: if it answers a next state in both, the two next states agree on them again.
(45_hash_sequencer.md R212.) -/
def Obligations.NoBranchingOnData : Prop :=
  ∀ (i : Instr) (s s' t t' : State), hashOperation i → controlOf s = controlOf s' →
    exec i s = .next t → exec i s' = .next t' → controlOf t = controlOf t'

/-! ### Reset and invariants -/

/-- For every state, busy or not: a reset event answers a next state in which STATUS is zero, the configuration, argument and
window registers and the running words of every context are zero, and upc is idle, as R280 lists. That the instance and the
number of contexts stay and that the host goes on with the rest of its list is the model's choice, log entry 21 (and log
entry 7 for the list). No content of a memory, counter or latch is claimed. (70_reset_and_hazards.md R280, 10_state.md R35.)
-/
def Obligations.ResetLeavesTheListedValues : Prop :=
  ∀ (s : State) (rest : List HostEvent),
    ∃ t, step { s with host := .reset :: rest } = .next t
      ∧ statusWord t.status = 0 ∧ t.upc = 0
      ∧ (t.seed = 0 ∧ t.mapSizeBits = 0 ∧ t.hashSize = 0 ∧ t.passes = 0 ∧ t.mapSize = 0 ∧ t.mask = 0)
      ∧ (t.argSeed = 0 ∧ t.argMapbits = 0 ∧ t.argHashsize = 0 ∧ t.argPasses = 0 ∧ t.len = 0 ∧ t.plen = 0 ∧ t.nbatch = 0)
      ∧ (t.ctxsel = 0 ∧ t.waddr = 0)
      ∧ t.ctxs.map wordsOf = List.replicate s.nCtx (0, 0, 0, 0)
      ∧ t.inst = s.inst ∧ t.host = rest

/-- State.reset meets Sound and TableInv. (Its instance and its counters are the choices of log entries 1, 2 and 5; nothing
else rests on them.) (10_state.md R35, 10_state.md R27.) -/
def Obligations.ResetStateIsSound : Prop :=
  Sound State.reset ∧ TableInv State.reset

/-- For every state with Sound, whatever the host does in the slot: if the step answers a next state, Sound holds of it.
Sound: the instance is one R6 admits; every memory is in canonical form and lists no cell beyond its capacity; STATUS is one
of idle, busy, done, failed with a produced error pair; the configuration registers are legal when configured and zero when
idle and unconfigured; upc is idle exactly while not busy and otherwise a micro-address of R93 whose counters and latches are
in their ranges (idx = p mod HASHSIZE in passes 1 and 2, idx = i in pass 3, v2 < 256 in passes 1 and 2, bt < 256, kc < nb ≤
N_CTX, lengths within the buffers). (10_state.md R21, 10_state.md R24, 10_state.md R25, 10_state.md R26, 10_state.md R27,
10_state.md R33, 20_memory.md R60, 60_exceptions.md R251.) -/
def Obligations.StepKeepsTheInvariant : Prop :=
  ∀ (s t : State), Sound s → step s = .next t → Sound t

/-- For every state with Sound, whatever the host does in the slot: the step neither faults nor refuses. Every address the
block generates is in range, and no unused micro-address occurs. (20_memory.md R60, 60_exceptions.md R255,
70_reset_and_hazards.md R290.) -/
def Obligations.SoundStateAlwaysSteps : Prop :=
  ∀ (s : State), Sound s → ∃ t, step s = .next t

/-- For every sound state (Sound) and the micro-operation i at upc: it answers a next state; and unless i is CHECK, ERR,
ERRCODE and ERRINFO are zero in that state. (R255.) -/
def Obligations.AcceptedCommandCannotFail : Prop :=
  ∀ (s : State) (i : Instr), Sound s → decodeUop s.upc = .ok i →
    ∃ t, exec i s = .next t
      ∧ (i ≠ .check → t.status.err = false ∧ t.status.errcode = 0 ∧ t.status.errinfo = 0)

/-- For every sound state (Sound) that meets TableInv: if the step answers a next state, TableInv holds of it. TableInv:
during the fill the cells below i hold their index mod 256; from the first SHUF on, and whenever the block is configured,
there is a permutation π of 0..MAPSIZE−1 with BM[a] = π(a) mod 256; configured with PASSES 0 the table is the unshuffled
fill. (40_bytemap_builder.md R128, 20_memory.md R71.) -/
def Obligations.TableInvariantKept : Prop :=
  ∀ (s t : State), Sound s → TableInv s → step s = .next t → TableInv t

/-- For every sound configured state that meets TableInv and every byte value v: exactly MAPSIZE / 256 cells of
BM[0..MAPSIZE) hold v. (40_bytemap_builder.md R128.) -/
def Obligations.TableIsBalanced : Prop :=
  ∀ (s : State), Sound s → TableInv s → s.status.configured = true → ∀ v : Byte, histogram s v = s.mapSize.toNat / 256

/-- For every sound configured state that meets TableInv with PASSES = 0 and every word v: B(v) = v AND 0xFF, whatever SEED,
MAPSIZEBITS and SHUF_F are. (40_bytemap_builder.md R128, 41_lookup_and_rotation.md R140.) -/
def Obligations.UnshuffledTableIsTheLowByte : Prop :=
  ∀ (s : State), Sound s → TableInv s → s.status.configured = true → s.passes = 0 →
    ∀ v : Word, probe s v = some (v &&& 0xFF)

/-! ### Whole commands -/

/-- For every sound state with the host silent: stepsLeft steps end in an idle state (upc 0, not busy), and after every
smaller number of steps the block is still busy. (70_reset_and_hazards.md R290.) -/
def Obligations.EveryCommandEnds : Prop :=
  ∀ (s : State), Sound s → s.host = [] →
    (∃ t, runSteps (stepsLeft s) s = .next t ∧ t.upc = 0 ∧ t.status.busy = false)
      ∧ ∀ k, k < stepsLeft s → ∃ u, runSteps k s = .next u ∧ u.status.busy = true

/-- For every idle state and its successor t by an accepted command: HASH has 1 + 37·LEN + 30·HASHSIZE micro-operations to
run, PREHASH 1 + 7·PLEN, POSTHASH 1 + 7·(LEN − PLEN) + 30·LEN + 30·HASHSIZE, HASHBATCH 1 + T·(6·N + 1) + T·(29·N + 1) +
30·HASHSIZE·N with T = PLEN + LEN and N = NBATCH, INIT 1 + M·(1 + PASSES) with M = 2^ARG_MAPBITS if CHECK finds no error and
1 if it does. (40_bytemap_builder.md R123, 45_hash_sequencer.md R217, 46_optional_commands.md R230, 46_optional_commands.md
R233, 46_optional_commands.md R236, 70_reset_and_hazards.md R290.) -/
def Obligations.CommandCounts : Prop :=
  ∀ (s t : State), s.status.busy = false →
    (exec .hash s = .next t → t.status.busy = true → stepsLeft t = 1 + 37 * s.len.toNat + 30 * s.hashSize.toNat)
    ∧ (exec .prehash s = .next t → t.status.busy = true → stepsLeft t = 1 + 7 * s.plen.toNat)
    ∧ (exec .posthash s = .next t → t.status.busy = true →
        stepsLeft t = 1 + 7 * (s.len.toNat - s.plen.toNat) + 30 * s.len.toNat + 30 * s.hashSize.toNat)
    ∧ (exec .hashbatch s = .next t → t.status.busy = true →
        stepsLeft t = 1 + (s.plen.toNat + s.len.toNat) * (6 * s.nbatch.toNat + 1)
          + (s.plen.toNat + s.len.toNat) * (29 * s.nbatch.toNat + 1) + 30 * s.hashSize.toNat * s.nbatch.toNat)
    ∧ (exec .init s = .next t →
        stepsLeft t = if 1 ≤ s.argHashsize.toNat ∧ s.argHashsize.toNat ≤ s.inst.hsCap ∧ 8 ≤ s.argMapbits.toNat
            ∧ s.argMapbits.toNat ≤ 34 ∧ s.argMapbits.toNat ≤ s.inst.bmCapBits
          then 1 + 2 ^ s.argMapbits.toNat * (1 + s.argPasses.toNat) else 1)

/-- From every sound idle state whose argument registers are legal, the host writing INIT and then silent: after the write
and 1 + M·(1 + PASSES) micro-operations (M = 2^MAPBITS) the block is idle with STATUS 0x06, the configuration registers hold
the arguments, BM[0..M) is buildTable of the stepping function, the seed, the map bits and the passes (so it depends on
nothing else), and every other byte, the contexts and the argument registers are as before. (40_bytemap_builder.md R120,
40_bytemap_builder.md R122, 40_bytemap_builder.md R123, 40_bytemap_builder.md R128.) -/
def Obligations.InitBuildsTheTable : Prop :=
  ∀ (s : State), Sound s → s.status.busy = false → s.host = [.wr 0x00 0x01] →
    1 ≤ s.argHashsize.toNat → s.argHashsize.toNat ≤ s.inst.hsCap → 8 ≤ s.argMapbits.toNat → s.argMapbits.toNat ≤ 34 →
    s.argMapbits.toNat ≤ s.inst.bmCapBits →
    ∃ t, runSteps (1 + (1 + 2 ^ s.argMapbits.toNat * (1 + s.argPasses.toNat))) s = .next t
      ∧ t.status = doneStatus ∧ statusWord t.status = 0x06 ∧ t.upc = 0
      ∧ t.seed = s.argSeed ∧ t.mapSizeBits = s.argMapbits ∧ t.hashSize = s.argHashsize ∧ t.passes = s.argPasses
      ∧ t.mapSize.toNat = 2 ^ s.argMapbits.toNat ∧ t.mask.toNat = 2 ^ s.argMapbits.toNat - 1
      ∧ bytesOf t .bm (2 ^ s.argMapbits.toNat) =
          buildTable s.inst.shuf s.argSeed s.argMapbits.toNat s.argPasses.toNat
      ∧ (∀ sp a, ¬(sp = .bm ∧ a < 2 ^ s.argMapbits.toNat) → t.peekByte sp a = s.peekByte sp a)
      ∧ t.ctxs = s.ctxs
      ∧ (t.argSeed = s.argSeed ∧ t.argMapbits = s.argMapbits ∧ t.argHashsize = s.argHashsize ∧ t.argPasses = s.argPasses
        ∧ t.len = s.len ∧ t.plen = s.plen ∧ t.nbatch = s.nbatch ∧ t.ctxsel = s.ctxsel ∧ t.waddr = s.waddr)

/-- From every sound idle configured state with LEN ≤ IN_CAP, the host writing HASH and then silent: after the write and 1 +
37·LEN + 30·HASHSIZE micro-operations STATUS is 0x06, the block is idle, OUT[0][0..HASHSIZE) is hashFn of the table, SEED,
HASHSIZE and the bytes IN[0][0..LEN) (the three-pass listing as a function of values), and the configuration, the table, the
prefix, the input buffers, OUT[0] at or above HASHSIZE and every other context are as before. (45_hash_sequencer.md R210,
45_hash_sequencer.md R215, 45_hash_sequencer.md R217, 00_scope.md R10, 44_reduction.md R200.) -/
def Obligations.HashComputesTheDigest : Prop :=
  ∀ (s : State), Sound s → s.status.busy = false → s.status.configured = true → s.host = [.wr 0x00 0x02] →
    s.len.toNat ≤ s.inst.inCap →
    ∃ t, runSteps (1 + (1 + 37 * s.len.toNat + 30 * s.hashSize.toNat)) s = .next t
      ∧ t.status = doneStatus ∧ t.upc = 0
      ∧ digestOf t 0 = hashFn (tableOf s) s.seed s.hashSize.toNat (bytesOf s (.inp 0) s.len.toNat)
      ∧ (t.seed = s.seed ∧ t.mapSizeBits = s.mapSizeBits ∧ t.hashSize = s.hashSize ∧ t.passes = s.passes
        ∧ t.mapSize = s.mapSize ∧ t.mask = s.mask ∧ t.bm = s.bm ∧ t.pfx = s.pfx)
      ∧ (∀ sp a, ¬(sp = .out 0 ∧ a < s.hashSize.toNat) → t.peekByte sp a = s.peekByte sp a)
      ∧ ∀ k, k ≠ 0 → t.ctxs[k]? = s.ctxs[k]?

/-- From every sound idle configured state of an instance with PREHASH, PLEN ≤ IN_CAP, the host writing PREHASH and then
silent: after the write and 1 + 7·PLEN micro-operations STATUS is 0x06, the block is idle, and the words and lanes of context
0 are prehashFn of the table, SEED, HASHSIZE and IN[0][0..PLEN); no byte of any memory and no other context changes.
(46_optional_commands.md R230, 46_optional_commands.md R231.) -/
def Obligations.PrehashLeavesTheSnapshot : Prop :=
  ∀ (s : State), Sound s → s.status.busy = false → s.status.configured = true → s.inst.hasSplit = true →
    s.host = [.wr 0x00 0x03] → s.plen.toNat ≤ s.inst.inCap →
    ∃ t, runSteps (1 + (1 + 7 * s.plen.toNat)) s = .next t
      ∧ t.status = doneStatus ∧ t.upc = 0
      ∧ mixerOf t 0 = prehashFn (tableOf s) s.seed s.hashSize.toNat (bytesOf s (.inp 0) s.plen.toNat)
      ∧ (t.seed = s.seed ∧ t.mapSizeBits = s.mapSizeBits ∧ t.hashSize = s.hashSize ∧ t.passes = s.passes
        ∧ t.mapSize = s.mapSize ∧ t.mask = s.mask ∧ t.bm = s.bm ∧ t.pfx = s.pfx)
      ∧ (∀ sp a, t.peekByte sp a = s.peekByte sp a)
      ∧ ∀ k, k ≠ 0 → t.ctxs[k]? = s.ctxs[k]?

/-- From every sound idle configured state of an instance with POSTHASH, PLEN ≤ LEN ≤ IN_CAP, the host writing POSTHASH and
then silent: after the write and 1 + 7·(LEN − PLEN) + 30·LEN + 30·HASHSIZE micro-operations STATUS is 0x06, the block is
idle, and OUT[0][0..HASHSIZE) is what finishHash gives for the table, HASHSIZE, PLEN, the bytes IN[0][0..LEN) and the mix
state context 0 held. (46_optional_commands.md R233, 46_optional_commands.md R231.) -/
def Obligations.PosthashFinishesTheHash : Prop :=
  ∀ (s : State), Sound s → s.status.busy = false → s.status.configured = true → s.inst.hasSplit = true →
    s.host = [.wr 0x00 0x04] → s.len.toNat ≤ s.inst.inCap → s.plen.toNat ≤ s.len.toNat →
    ∃ t, runSteps (1 + (1 + 7 * (s.len.toNat - s.plen.toNat) + 30 * s.len.toNat + 30 * s.hashSize.toNat)) s = .next t
      ∧ t.status = doneStatus ∧ t.upc = 0
      ∧ digestOf t 0 =
          finishHash (tableOf s) s.hashSize.toNat s.plen.toNat (bytesOf s (.inp 0) s.len.toNat) (mixerOf s 0)
      ∧ (t.seed = s.seed ∧ t.mapSizeBits = s.mapSizeBits ∧ t.hashSize = s.hashSize ∧ t.passes = s.passes
        ∧ t.mapSize = s.mapSize ∧ t.mask = s.mask ∧ t.bm = s.bm ∧ t.pfx = s.pfx)
      ∧ (∀ sp a, ¬(sp = .out 0 ∧ a < s.hashSize.toNat) → t.peekByte sp a = s.peekByte sp a)
      ∧ ∀ k, k ≠ 0 → t.ctxs[k]? = s.ctxs[k]?

/-- From every sound idle configured state of an instance with HASHBATCH whose lengths and count are legal, the host writing
HASHBATCH and then silent: after the write and 1 + T·(6·N + 1) + T·(29·N + 1) + 30·HASHSIZE·N micro-operations STATUS is
0x06, the block is idle, and for every k < N, OUT[k][0..HASHSIZE) is hashFn of PFX[0..PLEN) followed by IN[k][0..LEN), the
digest HASH gives for that input (HashComputesTheDigest); contexts at or above N are as before. (46_optional_commands.md
R235, 46_optional_commands.md R236, 46_optional_commands.md R237, 46_optional_commands.md R238.) -/
def Obligations.BatchHashesEveryInput : Prop :=
  ∀ (s : State), Sound s → s.status.busy = false → s.status.configured = true → s.inst.hasBatch = true →
    s.host = [.wr 0x00 0x05] → s.len.toNat ≤ s.inst.inCap → s.plen.toNat ≤ s.inst.inCap →
    s.plen.toNat + s.len.toNat < 2 ^ 64 → 1 ≤ s.nbatch.toNat → s.nbatch.toNat ≤ s.nCtx →
    ∃ t, runSteps (1 + (1 + (s.plen.toNat + s.len.toNat) * (6 * s.nbatch.toNat + 1)
        + (s.plen.toNat + s.len.toNat) * (29 * s.nbatch.toNat + 1) + 30 * s.hashSize.toNat * s.nbatch.toNat)) s = .next t
      ∧ t.status = doneStatus ∧ t.upc = 0
      ∧ (∀ k, k < s.nbatch.toNat → digestOf t k =
          hashFn (tableOf s) s.seed s.hashSize.toNat (bytesOf s .pfx s.plen.toNat ++ bytesOf s (.inp k) s.len.toNat))
      ∧ (t.seed = s.seed ∧ t.mapSizeBits = s.mapSizeBits ∧ t.hashSize = s.hashSize ∧ t.passes = s.passes
        ∧ t.mapSize = s.mapSize ∧ t.mask = s.mask ∧ t.bm = s.bm ∧ t.pfx = s.pfx)
      ∧ ∀ k, s.nbatch.toNat ≤ k → t.ctxs[k]? = s.ctxs[k]?

/-- For every table, seed, digest length and input, and every k up to its length: finishHash from prehashFn of the first k
bytes is hashFn of the input. (46_optional_commands.md R234.) -/
def Obligations.SplitHashEqualsWholeHash : Prop :=
  ∀ (B : Word → Word) (seed : Word) (hashSize : Nat) (input : List Byte) (k : Nat), k ≤ input.length →
    finishHash B hashSize k input (prehashFn B seed hashSize (input.take k)) = hashFn B seed hashSize input

/-- From every sound idle configured state of an instance with the split commands, for every L ≤ IN_CAP and k ≤ L: the host
lines PREHASH k; POSTHASH L, k (their expansions of R98), run to their end, and the host lines HASH L, run to their end, both
end idle and done, with the same OUT[0][0..HASHSIZE), which is hashFn of IN[0][0..L). (R234.) -/
def Obligations.SplitCommandsGiveTheHash : Prop :=
  ∀ (s : State), Sound s → s.status.busy = false → s.status.configured = true → s.inst.hasSplit = true →
    ∀ len k : Word, len.toNat ≤ s.inst.inCap → k.toNat ≤ len.toNat →
    ∃ x y t u, runSteps x { s with host := pseudoPrehash k ++ pseudoPosthash len k } = .next t
      ∧ runSteps y { s with host := pseudoHash len } = .next u
      ∧ t.host = [] ∧ u.host = [] ∧ t.status = doneStatus ∧ u.status = doneStatus
      ∧ digestOf t 0 = digestOf u 0
      ∧ digestOf u 0 = hashFn (tableOf s) s.seed s.hashSize.toNat (bytesOf s (.inp 0) len.toNat)
end

