-- ==== Sys2Proof/Laws/State.lean ====
section
/-! SUPPORT. One lemma per field of State per named update, each true by rfl, so that no later proof unfolds an update. -/

namespace Sys2Proof.Machine

/-! ### goto -/

@[simp] theorem goto_inst (s : State) (k : Instr) : (s.goto k).inst = s.inst := rfl
@[simp] theorem goto_status (s : State) (k : Instr) : (s.goto k).status = s.status := rfl
@[simp] theorem goto_seed (s : State) (k : Instr) : (s.goto k).seed = s.seed := rfl
@[simp] theorem goto_mapSizeBits (s : State) (k : Instr) : (s.goto k).mapSizeBits = s.mapSizeBits := rfl
@[simp] theorem goto_hashSize (s : State) (k : Instr) : (s.goto k).hashSize = s.hashSize := rfl
@[simp] theorem goto_passes (s : State) (k : Instr) : (s.goto k).passes = s.passes := rfl
@[simp] theorem goto_mapSize (s : State) (k : Instr) : (s.goto k).mapSize = s.mapSize := rfl
@[simp] theorem goto_mask (s : State) (k : Instr) : (s.goto k).mask = s.mask := rfl
@[simp] theorem goto_argSeed (s : State) (k : Instr) : (s.goto k).argSeed = s.argSeed := rfl
@[simp] theorem goto_argMapbits (s : State) (k : Instr) : (s.goto k).argMapbits = s.argMapbits := rfl
@[simp] theorem goto_argHashsize (s : State) (k : Instr) : (s.goto k).argHashsize = s.argHashsize := rfl
@[simp] theorem goto_argPasses (s : State) (k : Instr) : (s.goto k).argPasses = s.argPasses := rfl
@[simp] theorem goto_len (s : State) (k : Instr) : (s.goto k).len = s.len := rfl
@[simp] theorem goto_plen (s : State) (k : Instr) : (s.goto k).plen = s.plen := rfl
@[simp] theorem goto_nbatch (s : State) (k : Instr) : (s.goto k).nbatch = s.nbatch := rfl
@[simp] theorem goto_ctxsel (s : State) (k : Instr) : (s.goto k).ctxsel = s.ctxsel := rfl
@[simp] theorem goto_waddr (s : State) (k : Instr) : (s.goto k).waddr = s.waddr := rfl
@[simp] theorem goto_ctxs (s : State) (k : Instr) : (s.goto k).ctxs = s.ctxs := rfl
@[simp] theorem goto_upc (s : State) (k : Instr) : (s.goto k).upc = microAddress k := rfl
@[simp] theorem goto_p (s : State) (k : Instr) : (s.goto k).p = s.p := rfl
@[simp] theorem goto_idx (s : State) (k : Instr) : (s.goto k).idx = s.idx := rfl
@[simp] theorem goto_i (s : State) (k : Instr) : (s.goto k).i = s.i := rfl
@[simp] theorem goto_ps (s : State) (k : Instr) : (s.goto k).ps = s.ps := rfl
@[simp] theorem goto_kc (s : State) (k : Instr) : (s.goto k).kc = s.kc := rfl
@[simp] theorem goto_ph (s : State) (k : Instr) : (s.goto k).ph = s.ph := rfl
@[simp] theorem goto_v2 (s : State) (k : Instr) : (s.goto k).v2 = s.v2 := rfl
@[simp] theorem goto_bt (s : State) (k : Instr) : (s.goto k).bt = s.bt := rfl
@[simp] theorem goto_r (s : State) (k : Instr) : (s.goto k).r = s.r := rfl
@[simp] theorem goto_j (s : State) (k : Instr) : (s.goto k).j = s.j := rfl
@[simp] theorem goto_cmd (s : State) (k : Instr) : (s.goto k).cmd = s.cmd := rfl
@[simp] theorem goto_n (s : State) (k : Instr) : (s.goto k).n = s.n := rfl
@[simp] theorem goto_m (s : State) (k : Instr) : (s.goto k).m = s.m := rfl
@[simp] theorem goto_nb (s : State) (k : Instr) : (s.goto k).nb = s.nb := rfl
@[simp] theorem goto_cSeed (s : State) (k : Instr) : (s.goto k).cSeed = s.cSeed := rfl
@[simp] theorem goto_cMb (s : State) (k : Instr) : (s.goto k).cMb = s.cMb := rfl
@[simp] theorem goto_cHsz (s : State) (k : Instr) : (s.goto k).cHsz = s.cHsz := rfl
@[simp] theorem goto_cPas (s : State) (k : Instr) : (s.goto k).cPas = s.cPas := rfl
@[simp] theorem goto_bm (s : State) (k : Instr) : (s.goto k).bm = s.bm := rfl
@[simp] theorem goto_pfx (s : State) (k : Instr) : (s.goto k).pfx = s.pfx := rfl
@[simp] theorem goto_host (s : State) (k : Instr) : (s.goto k).host = s.host := rfl
@[simp] theorem goto_rdata (s : State) (k : Instr) : (s.goto k).rdata = s.rdata := rfl
@[simp] theorem goto_freeReads (s : State) (k : Instr) : (s.goto k).freeReads = s.freeReads := rfl
@[simp] theorem goto_epoch (s : State) (k : Instr) : (s.goto k).epoch = s.epoch := rfl

/-! ### setCtx -/

@[simp] theorem setCtx_inst (s : State) (c : Ctx) : (s.setCtx c).inst = s.inst := rfl
@[simp] theorem setCtx_status (s : State) (c : Ctx) : (s.setCtx c).status = s.status := rfl
@[simp] theorem setCtx_seed (s : State) (c : Ctx) : (s.setCtx c).seed = s.seed := rfl
@[simp] theorem setCtx_mapSizeBits (s : State) (c : Ctx) : (s.setCtx c).mapSizeBits = s.mapSizeBits := rfl
@[simp] theorem setCtx_hashSize (s : State) (c : Ctx) : (s.setCtx c).hashSize = s.hashSize := rfl
@[simp] theorem setCtx_passes (s : State) (c : Ctx) : (s.setCtx c).passes = s.passes := rfl
@[simp] theorem setCtx_mapSize (s : State) (c : Ctx) : (s.setCtx c).mapSize = s.mapSize := rfl
@[simp] theorem setCtx_mask (s : State) (c : Ctx) : (s.setCtx c).mask = s.mask := rfl
@[simp] theorem setCtx_argSeed (s : State) (c : Ctx) : (s.setCtx c).argSeed = s.argSeed := rfl
@[simp] theorem setCtx_argMapbits (s : State) (c : Ctx) : (s.setCtx c).argMapbits = s.argMapbits := rfl
@[simp] theorem setCtx_argHashsize (s : State) (c : Ctx) : (s.setCtx c).argHashsize = s.argHashsize := rfl
@[simp] theorem setCtx_argPasses (s : State) (c : Ctx) : (s.setCtx c).argPasses = s.argPasses := rfl
@[simp] theorem setCtx_len (s : State) (c : Ctx) : (s.setCtx c).len = s.len := rfl
@[simp] theorem setCtx_plen (s : State) (c : Ctx) : (s.setCtx c).plen = s.plen := rfl
@[simp] theorem setCtx_nbatch (s : State) (c : Ctx) : (s.setCtx c).nbatch = s.nbatch := rfl
@[simp] theorem setCtx_ctxsel (s : State) (c : Ctx) : (s.setCtx c).ctxsel = s.ctxsel := rfl
@[simp] theorem setCtx_waddr (s : State) (c : Ctx) : (s.setCtx c).waddr = s.waddr := rfl
@[simp] theorem setCtx_ctxs (s : State) (c : Ctx) : (s.setCtx c).ctxs = s.ctxs.set s.kc.toNat c := rfl
@[simp] theorem setCtx_upc (s : State) (c : Ctx) : (s.setCtx c).upc = s.upc := rfl
@[simp] theorem setCtx_p (s : State) (c : Ctx) : (s.setCtx c).p = s.p := rfl
@[simp] theorem setCtx_idx (s : State) (c : Ctx) : (s.setCtx c).idx = s.idx := rfl
@[simp] theorem setCtx_i (s : State) (c : Ctx) : (s.setCtx c).i = s.i := rfl
@[simp] theorem setCtx_ps (s : State) (c : Ctx) : (s.setCtx c).ps = s.ps := rfl
@[simp] theorem setCtx_kc (s : State) (c : Ctx) : (s.setCtx c).kc = s.kc := rfl
@[simp] theorem setCtx_ph (s : State) (c : Ctx) : (s.setCtx c).ph = s.ph := rfl
@[simp] theorem setCtx_v2 (s : State) (c : Ctx) : (s.setCtx c).v2 = s.v2 := rfl
@[simp] theorem setCtx_bt (s : State) (c : Ctx) : (s.setCtx c).bt = s.bt := rfl
@[simp] theorem setCtx_r (s : State) (c : Ctx) : (s.setCtx c).r = s.r := rfl
@[simp] theorem setCtx_j (s : State) (c : Ctx) : (s.setCtx c).j = s.j := rfl
@[simp] theorem setCtx_cmd (s : State) (c : Ctx) : (s.setCtx c).cmd = s.cmd := rfl
@[simp] theorem setCtx_n (s : State) (c : Ctx) : (s.setCtx c).n = s.n := rfl
@[simp] theorem setCtx_m (s : State) (c : Ctx) : (s.setCtx c).m = s.m := rfl
@[simp] theorem setCtx_nb (s : State) (c : Ctx) : (s.setCtx c).nb = s.nb := rfl
@[simp] theorem setCtx_cSeed (s : State) (c : Ctx) : (s.setCtx c).cSeed = s.cSeed := rfl
@[simp] theorem setCtx_cMb (s : State) (c : Ctx) : (s.setCtx c).cMb = s.cMb := rfl
@[simp] theorem setCtx_cHsz (s : State) (c : Ctx) : (s.setCtx c).cHsz = s.cHsz := rfl
@[simp] theorem setCtx_cPas (s : State) (c : Ctx) : (s.setCtx c).cPas = s.cPas := rfl
@[simp] theorem setCtx_bm (s : State) (c : Ctx) : (s.setCtx c).bm = s.bm := rfl
@[simp] theorem setCtx_pfx (s : State) (c : Ctx) : (s.setCtx c).pfx = s.pfx := rfl
@[simp] theorem setCtx_host (s : State) (c : Ctx) : (s.setCtx c).host = s.host := rfl
@[simp] theorem setCtx_rdata (s : State) (c : Ctx) : (s.setCtx c).rdata = s.rdata := rfl
@[simp] theorem setCtx_freeReads (s : State) (c : Ctx) : (s.setCtx c).freeReads = s.freeReads := rfl
@[simp] theorem setCtx_epoch (s : State) (c : Ctx) : (s.setCtx c).epoch = s.epoch := rfl

/-! ### pokeLane -/

@[simp] theorem pokeLane_inst (s : State) (k a : Nat) (v : Word) : (s.pokeLane k a v).inst = s.inst := rfl
@[simp] theorem pokeLane_status (s : State) (k a : Nat) (v : Word) : (s.pokeLane k a v).status = s.status := rfl
@[simp] theorem pokeLane_seed (s : State) (k a : Nat) (v : Word) : (s.pokeLane k a v).seed = s.seed := rfl
@[simp] theorem pokeLane_mapSizeBits (s : State) (k a : Nat) (v : Word) : (s.pokeLane k a v).mapSizeBits = s.mapSizeBits := rfl
@[simp] theorem pokeLane_hashSize (s : State) (k a : Nat) (v : Word) : (s.pokeLane k a v).hashSize = s.hashSize := rfl
@[simp] theorem pokeLane_passes (s : State) (k a : Nat) (v : Word) : (s.pokeLane k a v).passes = s.passes := rfl
@[simp] theorem pokeLane_mapSize (s : State) (k a : Nat) (v : Word) : (s.pokeLane k a v).mapSize = s.mapSize := rfl
@[simp] theorem pokeLane_mask (s : State) (k a : Nat) (v : Word) : (s.pokeLane k a v).mask = s.mask := rfl
@[simp] theorem pokeLane_argSeed (s : State) (k a : Nat) (v : Word) : (s.pokeLane k a v).argSeed = s.argSeed := rfl
@[simp] theorem pokeLane_argMapbits (s : State) (k a : Nat) (v : Word) : (s.pokeLane k a v).argMapbits = s.argMapbits := rfl
@[simp] theorem pokeLane_argHashsize (s : State) (k a : Nat) (v : Word) : (s.pokeLane k a v).argHashsize = s.argHashsize := rfl
@[simp] theorem pokeLane_argPasses (s : State) (k a : Nat) (v : Word) : (s.pokeLane k a v).argPasses = s.argPasses := rfl
@[simp] theorem pokeLane_len (s : State) (k a : Nat) (v : Word) : (s.pokeLane k a v).len = s.len := rfl
@[simp] theorem pokeLane_plen (s : State) (k a : Nat) (v : Word) : (s.pokeLane k a v).plen = s.plen := rfl
@[simp] theorem pokeLane_nbatch (s : State) (k a : Nat) (v : Word) : (s.pokeLane k a v).nbatch = s.nbatch := rfl
@[simp] theorem pokeLane_ctxsel (s : State) (k a : Nat) (v : Word) : (s.pokeLane k a v).ctxsel = s.ctxsel := rfl
@[simp] theorem pokeLane_waddr (s : State) (k a : Nat) (v : Word) : (s.pokeLane k a v).waddr = s.waddr := rfl
@[simp] theorem pokeLane_ctxs (s : State) (k a : Nat) (v : Word) : (s.pokeLane k a v).ctxs = s.ctxs.modify k fun c => { c with hs := cellPut a v c.hs } := rfl
@[simp] theorem pokeLane_upc (s : State) (k a : Nat) (v : Word) : (s.pokeLane k a v).upc = s.upc := rfl
@[simp] theorem pokeLane_p (s : State) (k a : Nat) (v : Word) : (s.pokeLane k a v).p = s.p := rfl
@[simp] theorem pokeLane_idx (s : State) (k a : Nat) (v : Word) : (s.pokeLane k a v).idx = s.idx := rfl
@[simp] theorem pokeLane_i (s : State) (k a : Nat) (v : Word) : (s.pokeLane k a v).i = s.i := rfl
@[simp] theorem pokeLane_ps (s : State) (k a : Nat) (v : Word) : (s.pokeLane k a v).ps = s.ps := rfl
@[simp] theorem pokeLane_kc (s : State) (k a : Nat) (v : Word) : (s.pokeLane k a v).kc = s.kc := rfl
@[simp] theorem pokeLane_ph (s : State) (k a : Nat) (v : Word) : (s.pokeLane k a v).ph = s.ph := rfl
@[simp] theorem pokeLane_v2 (s : State) (k a : Nat) (v : Word) : (s.pokeLane k a v).v2 = s.v2 := rfl
@[simp] theorem pokeLane_bt (s : State) (k a : Nat) (v : Word) : (s.pokeLane k a v).bt = s.bt := rfl
@[simp] theorem pokeLane_r (s : State) (k a : Nat) (v : Word) : (s.pokeLane k a v).r = s.r := rfl
@[simp] theorem pokeLane_j (s : State) (k a : Nat) (v : Word) : (s.pokeLane k a v).j = s.j := rfl
@[simp] theorem pokeLane_cmd (s : State) (k a : Nat) (v : Word) : (s.pokeLane k a v).cmd = s.cmd := rfl
@[simp] theorem pokeLane_n (s : State) (k a : Nat) (v : Word) : (s.pokeLane k a v).n = s.n := rfl
@[simp] theorem pokeLane_m (s : State) (k a : Nat) (v : Word) : (s.pokeLane k a v).m = s.m := rfl
@[simp] theorem pokeLane_nb (s : State) (k a : Nat) (v : Word) : (s.pokeLane k a v).nb = s.nb := rfl
@[simp] theorem pokeLane_cSeed (s : State) (k a : Nat) (v : Word) : (s.pokeLane k a v).cSeed = s.cSeed := rfl
@[simp] theorem pokeLane_cMb (s : State) (k a : Nat) (v : Word) : (s.pokeLane k a v).cMb = s.cMb := rfl
@[simp] theorem pokeLane_cHsz (s : State) (k a : Nat) (v : Word) : (s.pokeLane k a v).cHsz = s.cHsz := rfl
@[simp] theorem pokeLane_cPas (s : State) (k a : Nat) (v : Word) : (s.pokeLane k a v).cPas = s.cPas := rfl
@[simp] theorem pokeLane_bm (s : State) (k a : Nat) (v : Word) : (s.pokeLane k a v).bm = s.bm := rfl
@[simp] theorem pokeLane_pfx (s : State) (k a : Nat) (v : Word) : (s.pokeLane k a v).pfx = s.pfx := rfl
@[simp] theorem pokeLane_host (s : State) (k a : Nat) (v : Word) : (s.pokeLane k a v).host = s.host := rfl
@[simp] theorem pokeLane_rdata (s : State) (k a : Nat) (v : Word) : (s.pokeLane k a v).rdata = s.rdata := rfl
@[simp] theorem pokeLane_freeReads (s : State) (k a : Nat) (v : Word) : (s.pokeLane k a v).freeReads = s.freeReads := rfl
@[simp] theorem pokeLane_epoch (s : State) (k a : Nat) (v : Word) : (s.pokeLane k a v).epoch = s.epoch := rfl

/-! ### accepted -/

@[simp] theorem accepted_inst (s : State) : (accepted s).inst = s.inst := rfl
@[simp] theorem accepted_status (s : State) : (accepted s).status = statusAccepted s.status := rfl
@[simp] theorem accepted_seed (s : State) : (accepted s).seed = s.seed := rfl
@[simp] theorem accepted_mapSizeBits (s : State) : (accepted s).mapSizeBits = s.mapSizeBits := rfl
@[simp] theorem accepted_hashSize (s : State) : (accepted s).hashSize = s.hashSize := rfl
@[simp] theorem accepted_passes (s : State) : (accepted s).passes = s.passes := rfl
@[simp] theorem accepted_mapSize (s : State) : (accepted s).mapSize = s.mapSize := rfl
@[simp] theorem accepted_mask (s : State) : (accepted s).mask = s.mask := rfl
@[simp] theorem accepted_argSeed (s : State) : (accepted s).argSeed = s.argSeed := rfl
@[simp] theorem accepted_argMapbits (s : State) : (accepted s).argMapbits = s.argMapbits := rfl
@[simp] theorem accepted_argHashsize (s : State) : (accepted s).argHashsize = s.argHashsize := rfl
@[simp] theorem accepted_argPasses (s : State) : (accepted s).argPasses = s.argPasses := rfl
@[simp] theorem accepted_len (s : State) : (accepted s).len = s.len := rfl
@[simp] theorem accepted_plen (s : State) : (accepted s).plen = s.plen := rfl
@[simp] theorem accepted_nbatch (s : State) : (accepted s).nbatch = s.nbatch := rfl
@[simp] theorem accepted_ctxsel (s : State) : (accepted s).ctxsel = s.ctxsel := rfl
@[simp] theorem accepted_waddr (s : State) : (accepted s).waddr = s.waddr := rfl
@[simp] theorem accepted_ctxs (s : State) : (accepted s).ctxs = s.ctxs := rfl
@[simp] theorem accepted_upc (s : State) : (accepted s).upc = s.upc := rfl
@[simp] theorem accepted_p (s : State) : (accepted s).p = s.p := rfl
@[simp] theorem accepted_idx (s : State) : (accepted s).idx = s.idx := rfl
@[simp] theorem accepted_i (s : State) : (accepted s).i = s.i := rfl
@[simp] theorem accepted_ps (s : State) : (accepted s).ps = s.ps := rfl
@[simp] theorem accepted_kc (s : State) : (accepted s).kc = s.kc := rfl
@[simp] theorem accepted_ph (s : State) : (accepted s).ph = s.ph := rfl
@[simp] theorem accepted_v2 (s : State) : (accepted s).v2 = s.v2 := rfl
@[simp] theorem accepted_bt (s : State) : (accepted s).bt = s.bt := rfl
@[simp] theorem accepted_r (s : State) : (accepted s).r = s.r := rfl
@[simp] theorem accepted_j (s : State) : (accepted s).j = s.j := rfl
@[simp] theorem accepted_cmd (s : State) : (accepted s).cmd = s.cmd := rfl
@[simp] theorem accepted_n (s : State) : (accepted s).n = s.n := rfl
@[simp] theorem accepted_m (s : State) : (accepted s).m = s.m := rfl
@[simp] theorem accepted_nb (s : State) : (accepted s).nb = s.nb := rfl
@[simp] theorem accepted_cSeed (s : State) : (accepted s).cSeed = s.cSeed := rfl
@[simp] theorem accepted_cMb (s : State) : (accepted s).cMb = s.cMb := rfl
@[simp] theorem accepted_cHsz (s : State) : (accepted s).cHsz = s.cHsz := rfl
@[simp] theorem accepted_cPas (s : State) : (accepted s).cPas = s.cPas := rfl
@[simp] theorem accepted_bm (s : State) : (accepted s).bm = s.bm := rfl
@[simp] theorem accepted_pfx (s : State) : (accepted s).pfx = s.pfx := rfl
@[simp] theorem accepted_host (s : State) : (accepted s).host = s.host := rfl
@[simp] theorem accepted_rdata (s : State) : (accepted s).rdata = s.rdata := rfl
@[simp] theorem accepted_freeReads (s : State) : (accepted s).freeReads = s.freeReads := rfl
@[simp] theorem accepted_epoch (s : State) : (accepted s).epoch = s.epoch := rfl

/-! ### raise -/

@[simp] theorem raise_inst (e : BlockError) (s : State) : (raise e s).inst = s.inst := rfl
@[simp] theorem raise_status (e : BlockError) (s : State) : (raise e s).status = statusRaised e s.status := rfl
@[simp] theorem raise_seed (e : BlockError) (s : State) : (raise e s).seed = s.seed := rfl
@[simp] theorem raise_mapSizeBits (e : BlockError) (s : State) : (raise e s).mapSizeBits = s.mapSizeBits := rfl
@[simp] theorem raise_hashSize (e : BlockError) (s : State) : (raise e s).hashSize = s.hashSize := rfl
@[simp] theorem raise_passes (e : BlockError) (s : State) : (raise e s).passes = s.passes := rfl
@[simp] theorem raise_mapSize (e : BlockError) (s : State) : (raise e s).mapSize = s.mapSize := rfl
@[simp] theorem raise_mask (e : BlockError) (s : State) : (raise e s).mask = s.mask := rfl
@[simp] theorem raise_argSeed (e : BlockError) (s : State) : (raise e s).argSeed = s.argSeed := rfl
@[simp] theorem raise_argMapbits (e : BlockError) (s : State) : (raise e s).argMapbits = s.argMapbits := rfl
@[simp] theorem raise_argHashsize (e : BlockError) (s : State) : (raise e s).argHashsize = s.argHashsize := rfl
@[simp] theorem raise_argPasses (e : BlockError) (s : State) : (raise e s).argPasses = s.argPasses := rfl
@[simp] theorem raise_len (e : BlockError) (s : State) : (raise e s).len = s.len := rfl
@[simp] theorem raise_plen (e : BlockError) (s : State) : (raise e s).plen = s.plen := rfl
@[simp] theorem raise_nbatch (e : BlockError) (s : State) : (raise e s).nbatch = s.nbatch := rfl
@[simp] theorem raise_ctxsel (e : BlockError) (s : State) : (raise e s).ctxsel = s.ctxsel := rfl
@[simp] theorem raise_waddr (e : BlockError) (s : State) : (raise e s).waddr = s.waddr := rfl
@[simp] theorem raise_ctxs (e : BlockError) (s : State) : (raise e s).ctxs = s.ctxs := rfl
@[simp] theorem raise_upc (e : BlockError) (s : State) : (raise e s).upc = 0 := rfl
@[simp] theorem raise_p (e : BlockError) (s : State) : (raise e s).p = s.p := rfl
@[simp] theorem raise_idx (e : BlockError) (s : State) : (raise e s).idx = s.idx := rfl
@[simp] theorem raise_i (e : BlockError) (s : State) : (raise e s).i = s.i := rfl
@[simp] theorem raise_ps (e : BlockError) (s : State) : (raise e s).ps = s.ps := rfl
@[simp] theorem raise_kc (e : BlockError) (s : State) : (raise e s).kc = s.kc := rfl
@[simp] theorem raise_ph (e : BlockError) (s : State) : (raise e s).ph = s.ph := rfl
@[simp] theorem raise_v2 (e : BlockError) (s : State) : (raise e s).v2 = s.v2 := rfl
@[simp] theorem raise_bt (e : BlockError) (s : State) : (raise e s).bt = s.bt := rfl
@[simp] theorem raise_r (e : BlockError) (s : State) : (raise e s).r = s.r := rfl
@[simp] theorem raise_j (e : BlockError) (s : State) : (raise e s).j = s.j := rfl
@[simp] theorem raise_cmd (e : BlockError) (s : State) : (raise e s).cmd = s.cmd := rfl
@[simp] theorem raise_n (e : BlockError) (s : State) : (raise e s).n = s.n := rfl
@[simp] theorem raise_m (e : BlockError) (s : State) : (raise e s).m = s.m := rfl
@[simp] theorem raise_nb (e : BlockError) (s : State) : (raise e s).nb = s.nb := rfl
@[simp] theorem raise_cSeed (e : BlockError) (s : State) : (raise e s).cSeed = s.cSeed := rfl
@[simp] theorem raise_cMb (e : BlockError) (s : State) : (raise e s).cMb = s.cMb := rfl
@[simp] theorem raise_cHsz (e : BlockError) (s : State) : (raise e s).cHsz = s.cHsz := rfl
@[simp] theorem raise_cPas (e : BlockError) (s : State) : (raise e s).cPas = s.cPas := rfl
@[simp] theorem raise_bm (e : BlockError) (s : State) : (raise e s).bm = s.bm := rfl
@[simp] theorem raise_pfx (e : BlockError) (s : State) : (raise e s).pfx = s.pfx := rfl
@[simp] theorem raise_host (e : BlockError) (s : State) : (raise e s).host = s.host := rfl
@[simp] theorem raise_rdata (e : BlockError) (s : State) : (raise e s).rdata = s.rdata := rfl
@[simp] theorem raise_freeReads (e : BlockError) (s : State) : (raise e s).freeReads = s.freeReads := rfl
@[simp] theorem raise_epoch (e : BlockError) (s : State) : (raise e s).epoch = s.epoch := rfl

/-! ### endHash -/

@[simp] theorem endHash_inst (s : State) : (endHash s).inst = s.inst := rfl
@[simp] theorem endHash_status (s : State) : (endHash s).status = statusDone s.status := rfl
@[simp] theorem endHash_seed (s : State) : (endHash s).seed = s.seed := rfl
@[simp] theorem endHash_mapSizeBits (s : State) : (endHash s).mapSizeBits = s.mapSizeBits := rfl
@[simp] theorem endHash_hashSize (s : State) : (endHash s).hashSize = s.hashSize := rfl
@[simp] theorem endHash_passes (s : State) : (endHash s).passes = s.passes := rfl
@[simp] theorem endHash_mapSize (s : State) : (endHash s).mapSize = s.mapSize := rfl
@[simp] theorem endHash_mask (s : State) : (endHash s).mask = s.mask := rfl
@[simp] theorem endHash_argSeed (s : State) : (endHash s).argSeed = s.argSeed := rfl
@[simp] theorem endHash_argMapbits (s : State) : (endHash s).argMapbits = s.argMapbits := rfl
@[simp] theorem endHash_argHashsize (s : State) : (endHash s).argHashsize = s.argHashsize := rfl
@[simp] theorem endHash_argPasses (s : State) : (endHash s).argPasses = s.argPasses := rfl
@[simp] theorem endHash_len (s : State) : (endHash s).len = s.len := rfl
@[simp] theorem endHash_plen (s : State) : (endHash s).plen = s.plen := rfl
@[simp] theorem endHash_nbatch (s : State) : (endHash s).nbatch = s.nbatch := rfl
@[simp] theorem endHash_ctxsel (s : State) : (endHash s).ctxsel = s.ctxsel := rfl
@[simp] theorem endHash_waddr (s : State) : (endHash s).waddr = s.waddr := rfl
@[simp] theorem endHash_ctxs (s : State) : (endHash s).ctxs = s.ctxs := rfl
@[simp] theorem endHash_upc (s : State) : (endHash s).upc = 0 := rfl
@[simp] theorem endHash_p (s : State) : (endHash s).p = s.p := rfl
@[simp] theorem endHash_idx (s : State) : (endHash s).idx = s.idx := rfl
@[simp] theorem endHash_i (s : State) : (endHash s).i = s.i := rfl
@[simp] theorem endHash_ps (s : State) : (endHash s).ps = s.ps := rfl
@[simp] theorem endHash_kc (s : State) : (endHash s).kc = s.kc := rfl
@[simp] theorem endHash_ph (s : State) : (endHash s).ph = s.ph := rfl
@[simp] theorem endHash_v2 (s : State) : (endHash s).v2 = s.v2 := rfl
@[simp] theorem endHash_bt (s : State) : (endHash s).bt = s.bt := rfl
@[simp] theorem endHash_r (s : State) : (endHash s).r = s.r := rfl
@[simp] theorem endHash_j (s : State) : (endHash s).j = s.j := rfl
@[simp] theorem endHash_cmd (s : State) : (endHash s).cmd = s.cmd := rfl
@[simp] theorem endHash_n (s : State) : (endHash s).n = s.n := rfl
@[simp] theorem endHash_m (s : State) : (endHash s).m = s.m := rfl
@[simp] theorem endHash_nb (s : State) : (endHash s).nb = s.nb := rfl
@[simp] theorem endHash_cSeed (s : State) : (endHash s).cSeed = s.cSeed := rfl
@[simp] theorem endHash_cMb (s : State) : (endHash s).cMb = s.cMb := rfl
@[simp] theorem endHash_cHsz (s : State) : (endHash s).cHsz = s.cHsz := rfl
@[simp] theorem endHash_cPas (s : State) : (endHash s).cPas = s.cPas := rfl
@[simp] theorem endHash_bm (s : State) : (endHash s).bm = s.bm := rfl
@[simp] theorem endHash_pfx (s : State) : (endHash s).pfx = s.pfx := rfl
@[simp] theorem endHash_host (s : State) : (endHash s).host = s.host := rfl
@[simp] theorem endHash_rdata (s : State) : (endHash s).rdata = s.rdata := rfl
@[simp] theorem endHash_freeReads (s : State) : (endHash s).freeReads = s.freeReads := rfl
@[simp] theorem endHash_epoch (s : State) : (endHash s).epoch = s.epoch := rfl

/-! ### endInit -/

@[simp] theorem endInit_inst (s : State) : (endInit s).inst = s.inst := rfl
@[simp] theorem endInit_status (s : State) : (endInit s).status = statusConfigured s.status := rfl
@[simp] theorem endInit_seed (s : State) : (endInit s).seed = s.seed := rfl
@[simp] theorem endInit_mapSizeBits (s : State) : (endInit s).mapSizeBits = s.mapSizeBits := rfl
@[simp] theorem endInit_hashSize (s : State) : (endInit s).hashSize = s.hashSize := rfl
@[simp] theorem endInit_passes (s : State) : (endInit s).passes = s.passes := rfl
@[simp] theorem endInit_mapSize (s : State) : (endInit s).mapSize = s.mapSize := rfl
@[simp] theorem endInit_mask (s : State) : (endInit s).mask = s.mask := rfl
@[simp] theorem endInit_argSeed (s : State) : (endInit s).argSeed = s.argSeed := rfl
@[simp] theorem endInit_argMapbits (s : State) : (endInit s).argMapbits = s.argMapbits := rfl
@[simp] theorem endInit_argHashsize (s : State) : (endInit s).argHashsize = s.argHashsize := rfl
@[simp] theorem endInit_argPasses (s : State) : (endInit s).argPasses = s.argPasses := rfl
@[simp] theorem endInit_len (s : State) : (endInit s).len = s.len := rfl
@[simp] theorem endInit_plen (s : State) : (endInit s).plen = s.plen := rfl
@[simp] theorem endInit_nbatch (s : State) : (endInit s).nbatch = s.nbatch := rfl
@[simp] theorem endInit_ctxsel (s : State) : (endInit s).ctxsel = s.ctxsel := rfl
@[simp] theorem endInit_waddr (s : State) : (endInit s).waddr = s.waddr := rfl
@[simp] theorem endInit_ctxs (s : State) : (endInit s).ctxs = s.ctxs := rfl
@[simp] theorem endInit_upc (s : State) : (endInit s).upc = 0 := rfl
@[simp] theorem endInit_p (s : State) : (endInit s).p = s.p := rfl
@[simp] theorem endInit_idx (s : State) : (endInit s).idx = s.idx := rfl
@[simp] theorem endInit_i (s : State) : (endInit s).i = s.i := rfl
@[simp] theorem endInit_ps (s : State) : (endInit s).ps = s.ps := rfl
@[simp] theorem endInit_kc (s : State) : (endInit s).kc = s.kc := rfl
@[simp] theorem endInit_ph (s : State) : (endInit s).ph = s.ph := rfl
@[simp] theorem endInit_v2 (s : State) : (endInit s).v2 = s.v2 := rfl
@[simp] theorem endInit_bt (s : State) : (endInit s).bt = s.bt := rfl
@[simp] theorem endInit_r (s : State) : (endInit s).r = s.r := rfl
@[simp] theorem endInit_j (s : State) : (endInit s).j = s.j := rfl
@[simp] theorem endInit_cmd (s : State) : (endInit s).cmd = s.cmd := rfl
@[simp] theorem endInit_n (s : State) : (endInit s).n = s.n := rfl
@[simp] theorem endInit_m (s : State) : (endInit s).m = s.m := rfl
@[simp] theorem endInit_nb (s : State) : (endInit s).nb = s.nb := rfl
@[simp] theorem endInit_cSeed (s : State) : (endInit s).cSeed = s.cSeed := rfl
@[simp] theorem endInit_cMb (s : State) : (endInit s).cMb = s.cMb := rfl
@[simp] theorem endInit_cHsz (s : State) : (endInit s).cHsz = s.cHsz := rfl
@[simp] theorem endInit_cPas (s : State) : (endInit s).cPas = s.cPas := rfl
@[simp] theorem endInit_bm (s : State) : (endInit s).bm = s.bm := rfl
@[simp] theorem endInit_pfx (s : State) : (endInit s).pfx = s.pfx := rfl
@[simp] theorem endInit_host (s : State) : (endInit s).host = s.host := rfl
@[simp] theorem endInit_rdata (s : State) : (endInit s).rdata = s.rdata := rfl
@[simp] theorem endInit_freeReads (s : State) : (endInit s).freeReads = s.freeReads := rfl
@[simp] theorem endInit_epoch (s : State) : (endInit s).epoch = s.epoch := rfl

/-! ### pokeByte: it writes one of `bm`, `pfx` and the contexts, by its space -/

@[simp] theorem pokeByte_inst (s : State) (sp : ByteSpace) (a : Nat) (v : Byte) : (s.pokeByte sp a v).inst = s.inst := by
  cases sp <;> rfl
@[simp] theorem pokeByte_status (s : State) (sp : ByteSpace) (a : Nat) (v : Byte) : (s.pokeByte sp a v).status = s.status := by
  cases sp <;> rfl
@[simp] theorem pokeByte_seed (s : State) (sp : ByteSpace) (a : Nat) (v : Byte) : (s.pokeByte sp a v).seed = s.seed := by
  cases sp <;> rfl
@[simp] theorem pokeByte_mapSizeBits (s : State) (sp : ByteSpace) (a : Nat) (v : Byte) : (s.pokeByte sp a v).mapSizeBits = s.mapSizeBits := by
  cases sp <;> rfl
@[simp] theorem pokeByte_hashSize (s : State) (sp : ByteSpace) (a : Nat) (v : Byte) : (s.pokeByte sp a v).hashSize = s.hashSize := by
  cases sp <;> rfl
@[simp] theorem pokeByte_passes (s : State) (sp : ByteSpace) (a : Nat) (v : Byte) : (s.pokeByte sp a v).passes = s.passes := by
  cases sp <;> rfl
@[simp] theorem pokeByte_mapSize (s : State) (sp : ByteSpace) (a : Nat) (v : Byte) : (s.pokeByte sp a v).mapSize = s.mapSize := by
  cases sp <;> rfl
@[simp] theorem pokeByte_mask (s : State) (sp : ByteSpace) (a : Nat) (v : Byte) : (s.pokeByte sp a v).mask = s.mask := by
  cases sp <;> rfl
@[simp] theorem pokeByte_argSeed (s : State) (sp : ByteSpace) (a : Nat) (v : Byte) : (s.pokeByte sp a v).argSeed = s.argSeed := by
  cases sp <;> rfl
@[simp] theorem pokeByte_argMapbits (s : State) (sp : ByteSpace) (a : Nat) (v : Byte) : (s.pokeByte sp a v).argMapbits = s.argMapbits := by
  cases sp <;> rfl
@[simp] theorem pokeByte_argHashsize (s : State) (sp : ByteSpace) (a : Nat) (v : Byte) : (s.pokeByte sp a v).argHashsize = s.argHashsize := by
  cases sp <;> rfl
@[simp] theorem pokeByte_argPasses (s : State) (sp : ByteSpace) (a : Nat) (v : Byte) : (s.pokeByte sp a v).argPasses = s.argPasses := by
  cases sp <;> rfl
@[simp] theorem pokeByte_len (s : State) (sp : ByteSpace) (a : Nat) (v : Byte) : (s.pokeByte sp a v).len = s.len := by
  cases sp <;> rfl
@[simp] theorem pokeByte_plen (s : State) (sp : ByteSpace) (a : Nat) (v : Byte) : (s.pokeByte sp a v).plen = s.plen := by
  cases sp <;> rfl
@[simp] theorem pokeByte_nbatch (s : State) (sp : ByteSpace) (a : Nat) (v : Byte) : (s.pokeByte sp a v).nbatch = s.nbatch := by
  cases sp <;> rfl
@[simp] theorem pokeByte_ctxsel (s : State) (sp : ByteSpace) (a : Nat) (v : Byte) : (s.pokeByte sp a v).ctxsel = s.ctxsel := by
  cases sp <;> rfl
@[simp] theorem pokeByte_waddr (s : State) (sp : ByteSpace) (a : Nat) (v : Byte) : (s.pokeByte sp a v).waddr = s.waddr := by
  cases sp <;> rfl
@[simp] theorem pokeByte_upc (s : State) (sp : ByteSpace) (a : Nat) (v : Byte) : (s.pokeByte sp a v).upc = s.upc := by
  cases sp <;> rfl
@[simp] theorem pokeByte_p (s : State) (sp : ByteSpace) (a : Nat) (v : Byte) : (s.pokeByte sp a v).p = s.p := by
  cases sp <;> rfl
@[simp] theorem pokeByte_idx (s : State) (sp : ByteSpace) (a : Nat) (v : Byte) : (s.pokeByte sp a v).idx = s.idx := by
  cases sp <;> rfl
@[simp] theorem pokeByte_i (s : State) (sp : ByteSpace) (a : Nat) (v : Byte) : (s.pokeByte sp a v).i = s.i := by
  cases sp <;> rfl
@[simp] theorem pokeByte_ps (s : State) (sp : ByteSpace) (a : Nat) (v : Byte) : (s.pokeByte sp a v).ps = s.ps := by
  cases sp <;> rfl
@[simp] theorem pokeByte_kc (s : State) (sp : ByteSpace) (a : Nat) (v : Byte) : (s.pokeByte sp a v).kc = s.kc := by
  cases sp <;> rfl
@[simp] theorem pokeByte_ph (s : State) (sp : ByteSpace) (a : Nat) (v : Byte) : (s.pokeByte sp a v).ph = s.ph := by
  cases sp <;> rfl
@[simp] theorem pokeByte_v2 (s : State) (sp : ByteSpace) (a : Nat) (v : Byte) : (s.pokeByte sp a v).v2 = s.v2 := by
  cases sp <;> rfl
@[simp] theorem pokeByte_bt (s : State) (sp : ByteSpace) (a : Nat) (v : Byte) : (s.pokeByte sp a v).bt = s.bt := by
  cases sp <;> rfl
@[simp] theorem pokeByte_r (s : State) (sp : ByteSpace) (a : Nat) (v : Byte) : (s.pokeByte sp a v).r = s.r := by
  cases sp <;> rfl
@[simp] theorem pokeByte_j (s : State) (sp : ByteSpace) (a : Nat) (v : Byte) : (s.pokeByte sp a v).j = s.j := by
  cases sp <;> rfl
@[simp] theorem pokeByte_cmd (s : State) (sp : ByteSpace) (a : Nat) (v : Byte) : (s.pokeByte sp a v).cmd = s.cmd := by
  cases sp <;> rfl
@[simp] theorem pokeByte_n (s : State) (sp : ByteSpace) (a : Nat) (v : Byte) : (s.pokeByte sp a v).n = s.n := by
  cases sp <;> rfl
@[simp] theorem pokeByte_m (s : State) (sp : ByteSpace) (a : Nat) (v : Byte) : (s.pokeByte sp a v).m = s.m := by
  cases sp <;> rfl
@[simp] theorem pokeByte_nb (s : State) (sp : ByteSpace) (a : Nat) (v : Byte) : (s.pokeByte sp a v).nb = s.nb := by
  cases sp <;> rfl
@[simp] theorem pokeByte_cSeed (s : State) (sp : ByteSpace) (a : Nat) (v : Byte) : (s.pokeByte sp a v).cSeed = s.cSeed := by
  cases sp <;> rfl
@[simp] theorem pokeByte_cMb (s : State) (sp : ByteSpace) (a : Nat) (v : Byte) : (s.pokeByte sp a v).cMb = s.cMb := by
  cases sp <;> rfl
@[simp] theorem pokeByte_cHsz (s : State) (sp : ByteSpace) (a : Nat) (v : Byte) : (s.pokeByte sp a v).cHsz = s.cHsz := by
  cases sp <;> rfl
@[simp] theorem pokeByte_cPas (s : State) (sp : ByteSpace) (a : Nat) (v : Byte) : (s.pokeByte sp a v).cPas = s.cPas := by
  cases sp <;> rfl
@[simp] theorem pokeByte_host (s : State) (sp : ByteSpace) (a : Nat) (v : Byte) : (s.pokeByte sp a v).host = s.host := by
  cases sp <;> rfl
@[simp] theorem pokeByte_rdata (s : State) (sp : ByteSpace) (a : Nat) (v : Byte) : (s.pokeByte sp a v).rdata = s.rdata := by
  cases sp <;> rfl
@[simp] theorem pokeByte_freeReads (s : State) (sp : ByteSpace) (a : Nat) (v : Byte) : (s.pokeByte sp a v).freeReads = s.freeReads := by
  cases sp <;> rfl
@[simp] theorem pokeByte_epoch (s : State) (sp : ByteSpace) (a : Nat) (v : Byte) : (s.pokeByte sp a v).epoch = s.epoch := by
  cases sp <;> rfl

@[simp] theorem pokeByte_bm_bm (s : State) (a : Nat) (v : Byte) : (s.pokeByte .bm a v).bm = cellPut a v s.bm := rfl
@[simp] theorem pokeByte_bm_pfx (s : State) (a : Nat) (v : Byte) : (s.pokeByte .bm a v).pfx = s.pfx := rfl
@[simp] theorem pokeByte_bm_ctxs (s : State) (a : Nat) (v : Byte) : (s.pokeByte .bm a v).ctxs = s.ctxs := rfl
@[simp] theorem pokeByte_pfx_bm (s : State) (a : Nat) (v : Byte) : (s.pokeByte .pfx a v).bm = s.bm := rfl
@[simp] theorem pokeByte_pfx_pfx (s : State) (a : Nat) (v : Byte) : (s.pokeByte .pfx a v).pfx = cellPut a v s.pfx := rfl
@[simp] theorem pokeByte_pfx_ctxs (s : State) (a : Nat) (v : Byte) : (s.pokeByte .pfx a v).ctxs = s.ctxs := rfl
@[simp] theorem pokeByte_inp_bm (s : State) (k a : Nat) (v : Byte) : (s.pokeByte (.inp k) a v).bm = s.bm := rfl
@[simp] theorem pokeByte_inp_pfx (s : State) (k a : Nat) (v : Byte) : (s.pokeByte (.inp k) a v).pfx = s.pfx := rfl
@[simp] theorem pokeByte_inp_ctxs (s : State) (k a : Nat) (v : Byte) :
    (s.pokeByte (.inp k) a v).ctxs = s.ctxs.modify k fun c => { c with inp := cellPut a v c.inp } := rfl
@[simp] theorem pokeByte_out_bm (s : State) (k a : Nat) (v : Byte) : (s.pokeByte (.out k) a v).bm = s.bm := rfl
@[simp] theorem pokeByte_out_pfx (s : State) (k a : Nat) (v : Byte) : (s.pokeByte (.out k) a v).pfx = s.pfx := rfl
@[simp] theorem pokeByte_out_ctxs (s : State) (k a : Nat) (v : Byte) :
    (s.pokeByte (.out k) a v).ctxs = s.ctxs.modify k fun c => { c with out := cellPut a v c.out } := rfl

/-! ### The number of contexts never changes -/

@[simp] theorem goto_nCtx (s : State) (k : Instr) : (s.goto k).nCtx = s.nCtx := rfl
@[simp] theorem accepted_nCtx (s : State) : (accepted s).nCtx = s.nCtx := rfl
@[simp] theorem raise_nCtx (e : BlockError) (s : State) : (raise e s).nCtx = s.nCtx := rfl
@[simp] theorem endHash_nCtx (s : State) : (endHash s).nCtx = s.nCtx := rfl
@[simp] theorem endInit_nCtx (s : State) : (endInit s).nCtx = s.nCtx := rfl
@[simp] theorem setCtx_nCtx (s : State) (c : Ctx) : (s.setCtx c).nCtx = s.nCtx := by simp [State.nCtx]
@[simp] theorem pokeLane_nCtx (s : State) (k a : Nat) (v : Word) : (s.pokeLane k a v).nCtx = s.nCtx := by simp [State.nCtx]
@[simp] theorem pokeByte_nCtx (s : State) (sp : ByteSpace) (a : Nat) (v : Byte) : (s.pokeByte sp a v).nCtx = s.nCtx := by
  cases sp <;> simp [State.nCtx]

/-! ### Updates that leave every memory alone -/

@[simp] theorem goto_peekByte (s : State) (k : Instr) (sp : ByteSpace) (a : Nat) : (s.goto k).peekByte sp a = s.peekByte sp a := by
  cases sp <;> rfl
@[simp] theorem goto_peekLane (s : State) (k : Instr) (q a : Nat) : (s.goto k).peekLane q a = s.peekLane q a := rfl
@[simp] theorem accepted_peekByte (s : State) (sp : ByteSpace) (a : Nat) : (accepted s).peekByte sp a = s.peekByte sp a := by
  cases sp <;> rfl
@[simp] theorem accepted_peekLane (s : State) (q a : Nat) : (accepted s).peekLane q a = s.peekLane q a := rfl
@[simp] theorem raise_peekByte (e : BlockError) (s : State) (sp : ByteSpace) (a : Nat) : (raise e s).peekByte sp a = s.peekByte sp a := by
  cases sp <;> rfl
@[simp] theorem raise_peekLane (e : BlockError) (s : State) (q a : Nat) : (raise e s).peekLane q a = s.peekLane q a := rfl
@[simp] theorem endHash_peekByte (s : State) (sp : ByteSpace) (a : Nat) : (endHash s).peekByte sp a = s.peekByte sp a := by
  cases sp <;> rfl
@[simp] theorem endHash_peekLane (s : State) (q a : Nat) : (endHash s).peekLane q a = s.peekLane q a := rfl
@[simp] theorem endInit_peekByte (s : State) (sp : ByteSpace) (a : Nat) : (endInit s).peekByte sp a = s.peekByte sp a := by
  cases sp <;> rfl
@[simp] theorem endInit_peekLane (s : State) (q a : Nat) : (endInit s).peekLane q a = s.peekLane q a := rfl

end Sys2Proof.Machine
end

