-- ==== Sys2Proof/Laws/Memory.lean ====
section
/-! SUPPORT. The laws of memory: a read after a write, the canonical form and the capacity are kept by every memory operation,
and equal memories are equal data (20_memory.md R60). -/

namespace Sys2Proof.Machine

variable {α : Type}

/-! ### One memory -/

@[simp] theorem cellGet_cellPut_same (a : Nat) (v : α) (m : List (Nat × α)) : cellGet (cellPut a v m) a = some v := by
  induction m with
  | nil => simp [cellPut, cellGet]
  | cons x t ih =>
    obtain ⟨b, u⟩ := x
    by_cases h1 : a < b
    · simp [cellPut, cellGet, h1]
    · by_cases h2 : a = b
      · simp [cellPut, cellGet, h2]
      · simp [cellPut, cellGet, h1, h2, ih]

theorem cellGet_cellPut_other {a b : Nat} (h : b ≠ a) (v : α) (m : List (Nat × α)) :
    cellGet (cellPut a v m) b = cellGet m b := by
  induction m with
  | nil => simp [cellPut, cellGet, h]
  | cons x t ih =>
    obtain ⟨c, u⟩ := x
    by_cases h1 : a < c
    · simp [cellPut, cellGet, h1, h]
    · by_cases h2 : a = c
      · subst h2
        simp [cellPut, cellGet, h]
      · simp [cellPut, cellGet, h1, h2, ih]

theorem cellGet_cellPut (a b : Nat) (v : α) (m : List (Nat × α)) :
    cellGet (cellPut a v m) b = if b = a then some v else cellGet m b := by
  by_cases h : b = a
  · simp [h]
  · simp [h, cellGet_cellPut_other h]

theorem mem_cellPut {a : Nat} {v : α} {m : List (Nat × α)} {x : Nat × α} (h : x ∈ cellPut a v m) : x = (a, v) ∨ x ∈ m := by
  induction m with
  | nil => simpa [cellPut] using h
  | cons y t ih =>
    obtain ⟨b, u⟩ := y
    by_cases h1 : a < b
    · simpa [cellPut, h1] using h
    · by_cases h2 : a = b
      · subst h2
        simp only [cellPut, h1, if_true, if_false, List.mem_cons] at h
        rcases h with h | h
        · exact .inl h
        · exact .inr (by simp [h])
      · simp only [cellPut, h1, h2, if_false, List.mem_cons] at h
        rcases h with h | h
        · exact .inr (by simp [h])
        · rcases ih h with h | h
          · exact .inl h
          · exact .inr (by simp [h])

/-- A write keeps the canonical form. -/
theorem cellPut_wf {a : Nat} {v : α} {m : List (Nat × α)} (h : Memory.wf m) : Memory.wf (cellPut a v m) := by
  induction m with
  | nil => simp [cellPut]
  | cons y t ih =>
    obtain ⟨b, u⟩ := y
    rw [Memory.wf, List.pairwise_cons] at h
    by_cases h1 : a < b
    · simp only [cellPut, h1, if_true, Memory.wf, List.pairwise_cons]
      refine ⟨fun x hx => ?_, h.1, h.2⟩
      rcases List.mem_cons.mp hx with rfl | hx
      · exact h1
      · exact Nat.lt_trans h1 (h.1 x hx)
    · by_cases h2 : a = b
      · subst h2
        simp only [cellPut, h1, if_true, if_false, Memory.wf, List.pairwise_cons]
        exact ⟨h.1, h.2⟩
      · simp only [cellPut, h1, h2, if_false, Memory.wf, List.pairwise_cons]
        refine ⟨fun x hx => ?_, ih h.2⟩
        rcases mem_cellPut hx with rfl | hx
        · show b < a
          omega
        · exact h.1 x hx

/-- A write to a cell below the capacity lists no cell beyond it. -/
theorem cellPut_bounded {a cap : Nat} {v : α} {m : List (Nat × α)} (ha : a < cap) (h : ∀ x ∈ m, x.1 < cap) :
    ∀ x ∈ cellPut a v m, x.1 < cap := by
  intro x hx
  rcases mem_cellPut hx with rfl | hx
  · exact ha
  · exact h x hx

theorem cellGet_eq_none_of_lt {a : Nat} {m : List (Nat × α)} (h : ∀ x ∈ m, a < x.1) : cellGet m a = none := by
  induction m with
  | nil => rfl
  | cons y t ih =>
    obtain ⟨b, u⟩ := y
    have hb : a < b := h (b, u) (by simp)
    simp [cellGet, Nat.ne_of_lt hb, ih fun x hx => h x (by simp [hx])]

/-- The canonical form is canonical: memories that read alike are the same list. -/
theorem wf_ext {m m' : List (Nat × α)} (h : Memory.wf m) (h' : Memory.wf m') (heq : ∀ a, cellGet m a = cellGet m' a) :
    m = m' := by
  induction m generalizing m' with
  | nil =>
    cases m' with
    | nil => rfl
    | cons y t => simpa [cellGet] using heq y.1
  | cons x t ih =>
    obtain ⟨b, u⟩ := x
    rw [Memory.wf, List.pairwise_cons] at h
    cases m' with
    | nil => simpa [cellGet] using heq b
    | cons y t' =>
      obtain ⟨c, w⟩ := y
      rw [Memory.wf, List.pairwise_cons] at h'
      have hbc : b = c := by
        rcases Nat.lt_trichotomy b c with hlt | hlt | hlt
        · have := heq b
          rw [cellGet_eq_none_of_lt (m := (c, w) :: t')] at this
          · simp [cellGet] at this
          · intro x hx
            rcases List.mem_cons.mp hx with rfl | hx
            · exact hlt
            · exact Nat.lt_trans hlt (h'.1 x hx)
        · exact hlt
        · have := heq c
          rw [cellGet_eq_none_of_lt (m := (b, u) :: t)] at this
          · simp [cellGet] at this
          · intro x hx
            rcases List.mem_cons.mp hx with rfl | hx
            · exact hlt
            · exact Nat.lt_trans hlt (h.1 x hx)
      subst hbc
      have huw : u = w := by simpa [cellGet] using heq b
      subst huw
      have htail : t = t' := by
        refine ih h.2 h'.2 fun a => ?_
        by_cases hab : a = b
        · subst hab
          rw [cellGet_eq_none_of_lt fun x hx => h.1 x hx, cellGet_eq_none_of_lt fun x hx => h'.1 x hx]
        · simpa [cellGet, hab] using heq a
      rw [htail]

/-! ### Clearing lanes (45_hash_sequencer.md R211) -/

theorem cellGet_clearLanes (count : Nat) (m : List (Nat × Word)) (a : Nat) :
    cellGet (clearLanes count m) a = if a < count then some 0 else cellGet m a := by
  induction count generalizing m with
  | zero => simp [clearLanes]
  | succ q ih =>
    rw [clearLanes, ih, cellGet_cellPut]
    by_cases h1 : a < q
    · simp [h1, Nat.lt_succ_of_lt h1]
    · by_cases h2 : a = q
      · simp [h2]
      · simp [h1, h2, show ¬a < q + 1 by omega]

theorem clearLanes_wf {count : Nat} {m : List (Nat × Word)} (h : Memory.wf m) : Memory.wf (clearLanes count m) := by
  induction count generalizing m with
  | zero => exact h
  | succ q ih => exact ih (cellPut_wf h)

theorem clearLanes_bounded {count cap : Nat} {m : List (Nat × Word)} (hc : count ≤ cap) (h : ∀ x ∈ m, x.1 < cap) :
    ∀ x ∈ clearLanes count m, x.1 < cap := by
  induction count generalizing m with
  | zero => exact h
  | succ q ih => exact ih (by omega) (cellPut_bounded (by omega) h)

/-! ### The byte spaces and the lanes of a state -/

/-- The read of a byte depends on the written cells and the epoch alone. -/
theorem peekByte_congr {s t : State} {sp : ByteSpace} {a : Nat} (hc : t.byteCells sp = s.byteCells sp)
    (he : t.epoch = s.epoch) : t.peekByte sp a = s.peekByte sp a := by
  simp [State.peekByte, hc, he]

/-- A state with the same memories and epoch reads alike at every byte. -/
theorem peekByte_of_memories {s t : State} (hb : t.bm = s.bm) (hp : t.pfx = s.pfx) (hc : t.ctxs = s.ctxs)
    (he : t.epoch = s.epoch) (sp : ByteSpace) (a : Nat) : t.peekByte sp a = s.peekByte sp a := by
  refine peekByte_congr ?_ he
  cases sp <;> simp [State.byteCells, hb, hp, hc]

/-- A state with the same contexts and epoch reads alike at every lane. -/
theorem peekLane_of_memories {s t : State} (hc : t.ctxs = s.ctxs) (he : t.epoch = s.epoch) (k a : Nat) :
    t.peekLane k a = s.peekLane k a := by simp [State.peekLane, hc, he]

/-- A store to one cell of `BM` is read back from that cell, and every other cell of every space reads as before. -/
theorem peekByte_pokeByte_bm (s : State) (a : Nat) (v : Byte) (sp : ByteSpace) (b : Nat) :
    (s.pokeByte .bm a v).peekByte sp b = if sp = .bm ∧ b = a then v else s.peekByte sp b := by
  cases sp with
  | bm =>
    by_cases h : b = a
    · simp [State.peekByte, State.byteCells, h]
    · simp [State.peekByte, State.byteCells, h, cellGet_cellPut_other h]
  | _ => simp [State.peekByte, State.byteCells]

/-- The same for `PFX`. -/
theorem peekByte_pokeByte_pfx (s : State) (a : Nat) (v : Byte) (sp : ByteSpace) (b : Nat) :
    (s.pokeByte .pfx a v).peekByte sp b = if sp = .pfx ∧ b = a then v else s.peekByte sp b := by
  cases sp with
  | pfx =>
    by_cases h : b = a
    · simp [State.peekByte, State.byteCells, h]
    · simp [State.peekByte, State.byteCells, h, cellGet_cellPut_other h]
  | _ => simp [State.peekByte, State.byteCells]

/-- The same for `OUT[k]` of a context the instance has. -/
theorem peekByte_pokeByte_out {s : State} {k : Nat} (hk : k < s.nCtx) (a : Nat) (v : Byte) (sp : ByteSpace) (b : Nat) :
    (s.pokeByte (.out k) a v).peekByte sp b = if sp = .out k ∧ b = a then v else s.peekByte sp b := by
  cases sp with
  | out q =>
    by_cases hq : q = k
    · subst hq
      have hs : s.ctxs[q]? = some s.ctxs[q] := List.getElem?_eq_getElem hk
      by_cases h : b = a
      · simp [State.peekByte, State.byteCells, hs, h]
      · simp [State.peekByte, State.byteCells, hs, h, cellGet_cellPut_other h]
    · simp [State.peekByte, State.byteCells, hq, Ne.symm hq]
  | inp q =>
    by_cases hq : k = q
    · subst hq
      cases hs : s.ctxs[k]? <;> simp [State.peekByte, State.byteCells, hs]
    · simp [State.peekByte, State.byteCells, hq]
  | _ => simp [State.peekByte, State.byteCells]

/-- The same for `IN[k]` of a context the instance has. -/
theorem peekByte_pokeByte_inp {s : State} {k : Nat} (hk : k < s.nCtx) (a : Nat) (v : Byte) (sp : ByteSpace) (b : Nat) :
    (s.pokeByte (.inp k) a v).peekByte sp b = if sp = .inp k ∧ b = a then v else s.peekByte sp b := by
  cases sp with
  | inp q =>
    by_cases hq : q = k
    · subst hq
      have hs : s.ctxs[q]? = some s.ctxs[q] := List.getElem?_eq_getElem hk
      by_cases h : b = a
      · simp [State.peekByte, State.byteCells, hs, h]
      · simp [State.peekByte, State.byteCells, hs, h, cellGet_cellPut_other h]
    · simp [State.peekByte, State.byteCells, hq, Ne.symm hq]
  | out q =>
    by_cases hq : k = q
    · subst hq
      cases hs : s.ctxs[k]? <;> simp [State.peekByte, State.byteCells, hs]
    · simp [State.peekByte, State.byteCells, hq]
  | _ => simp [State.peekByte, State.byteCells]

/-- A store to a lane the instance has is read back from it, and every other lane reads as before. -/
theorem peekLane_pokeLane {s : State} {k : Nat} (hk : k < s.nCtx) (a : Nat) (v : Word) (q b : Nat) :
    (s.pokeLane k a v).peekLane q b = if q = k ∧ b = a then v else s.peekLane q b := by
  by_cases hq : q = k
  · subst hq
    have hs : s.ctxs[q]? = some s.ctxs[q] := List.getElem?_eq_getElem hk
    by_cases h : b = a
    · simp [State.peekLane, hs, h]
    · simp [State.peekLane, hs, h, cellGet_cellPut_other h]
  · simp [State.peekLane, hq, Ne.symm hq]

/-- A store to a lane changes no byte. -/
@[simp] theorem peekByte_pokeLane (s : State) (k a : Nat) (v : Word) (sp : ByteSpace) (b : Nat) :
    (s.pokeLane k a v).peekByte sp b = s.peekByte sp b := by
  cases sp with
  | inp q =>
    by_cases hq : k = q
    · subst hq
      cases hs : s.ctxs[k]? <;> simp [State.peekByte, State.byteCells, hs]
    · simp [State.peekByte, State.byteCells, hq]
  | out q =>
    by_cases hq : k = q
    · subst hq
      cases hs : s.ctxs[k]? <;> simp [State.peekByte, State.byteCells, hs]
    · simp [State.peekByte, State.byteCells, hq]
  | _ => simp [State.peekByte, State.byteCells]

/-- A store to a byte changes no lane. -/
@[simp] theorem peekLane_pokeByte (s : State) (sp : ByteSpace) (a : Nat) (v : Byte) (k b : Nat) :
    (s.pokeByte sp a v).peekLane k b = s.peekLane k b := by
  cases sp with
  | inp q =>
    by_cases hq : q = k
    · subst hq
      cases hs : s.ctxs[q]? <;> simp [State.peekLane, hs]
    · simp [State.peekLane, hq]
  | out q =>
    by_cases hq : q = k
    · subst hq
      cases hs : s.ctxs[q]? <;> simp [State.peekLane, hs]
    · simp [State.peekLane, hq]
  | _ => rfl

/-- Writing the current context back with its memories as they were changes no byte. -/
theorem peekByte_setCtx {s : State} {c d : Ctx} (hc : s.ctxs[s.kc.toNat]? = some c) (hi : d.inp = c.inp)
    (ho : d.out = c.out) (sp : ByteSpace) (b : Nat) : (s.setCtx d).peekByte sp b = s.peekByte sp b := by
  obtain ⟨hk, hg⟩ := List.getElem?_eq_some_iff.mp hc
  cases sp with
  | inp q =>
    by_cases hq : s.kc.toNat = q
    · subst hq
      simp [State.peekByte, State.byteCells, hg, hi, hk]
    · simp [State.peekByte, State.byteCells, hq]
  | out q =>
    by_cases hq : s.kc.toNat = q
    · subst hq
      simp [State.peekByte, State.byteCells, hg, ho, hk]
    · simp [State.peekByte, State.byteCells, hq]
  | _ => simp [State.peekByte, State.byteCells]

/-- Writing the current context back with its lanes as they were changes no lane. -/
theorem peekLane_setCtx {s : State} {c d : Ctx} (hc : s.ctxs[s.kc.toNat]? = some c) (hh : d.hs = c.hs) (k b : Nat) :
    (s.setCtx d).peekLane k b = s.peekLane k b := by
  obtain ⟨hk, hg⟩ := List.getElem?_eq_some_iff.mp hc
  by_cases hq : s.kc.toNat = k
  · subst hq
    simp [State.peekLane, hg, hh, hk]
  · simp [State.peekLane, hq]

/-! ### What a read or a write that answers says -/

theorem readByte_eq_some {s : State} {sp : ByteSpace} {a : Nat} {v : Byte} (h : s.readByte sp a = some v) :
    s.hasByte sp a = true ∧ v = s.peekByte sp a := by
  unfold State.readByte at h
  split at h
  · exact ⟨by assumption, by simpa using h.symm⟩
  · cases h

theorem writeByte_eq_some {s t : State} {sp : ByteSpace} {a : Nat} {v : Byte} (h : s.writeByte sp a v = some t) :
    s.hasByte sp a = true ∧ t = s.pokeByte sp a v := by
  unfold State.writeByte at h
  split at h
  · exact ⟨by assumption, by simpa using h.symm⟩
  · cases h

theorem readLane_eq_some {s : State} {k a : Nat} {v : Word} (h : s.readLane k a = some v) :
    s.hasLane k a = true ∧ v = s.peekLane k a := by
  unfold State.readLane at h
  split at h
  · exact ⟨by assumption, by simpa using h.symm⟩
  · cases h

theorem writeLane_eq_some {s t : State} {k a : Nat} {v : Word} (h : s.writeLane k a v = some t) :
    s.hasLane k a = true ∧ t = s.pokeLane k a v := by
  unfold State.writeLane at h
  split at h
  · exact ⟨by assumption, by simpa using h.symm⟩
  · cases h

theorem readByte_of_has {s : State} {sp : ByteSpace} {a : Nat} (h : s.hasByte sp a = true) :
    s.readByte sp a = some (s.peekByte sp a) := by simp [State.readByte, h]

theorem writeByte_of_has {s : State} {sp : ByteSpace} {a : Nat} (v : Byte) (h : s.hasByte sp a = true) :
    s.writeByte sp a v = some (s.pokeByte sp a v) := by simp [State.writeByte, h]

theorem readLane_of_has {s : State} {k a : Nat} (h : s.hasLane k a = true) : s.readLane k a = some (s.peekLane k a) := by
  simp [State.readLane, h]

theorem writeLane_of_has {s : State} {k a : Nat} (v : Word) (h : s.hasLane k a = true) :
    s.writeLane k a v = some (s.pokeLane k a v) := by simp [State.writeLane, h]

/-! ### After reset every memory is canonical and empty -/

theorem fresh_memories_wf (c : Instance) (count : Nat) :
    Memory.wf (State.fresh c count).bm ∧ Memory.wf (State.fresh c count).pfx
      ∧ ∀ x ∈ (State.fresh c count).ctxs, Memory.wf x.hs ∧ Memory.wf x.inp ∧ Memory.wf x.out := by
  refine ⟨List.Pairwise.nil, List.Pairwise.nil, fun x hx => ?_⟩
  have : x = Ctx.blank := List.eq_of_mem_replicate hx
  subst this
  exact ⟨List.Pairwise.nil, List.Pairwise.nil, List.Pairwise.nil⟩

theorem reset_memories_wf :
    Memory.wf State.reset.bm ∧ Memory.wf State.reset.pfx
      ∧ ∀ x ∈ State.reset.ctxs, Memory.wf x.hs ∧ Memory.wf x.inp ∧ Memory.wf x.out :=
  fresh_memories_wf _ _

end Sys2Proof.Machine
end

