-- ==== Sys2Proof/Laws/Ops.lean ====
section
/-! SUPPORT. For each shared operation, what it can answer, said once: a forward lemma (when it answers a next state, and which)
and, where later proofs take a step apart, an inversion. -/

namespace Sys2Proof.Machine

/-! ### Dispatch: what `exec` calls for each instruction -/

@[simp] theorem exec_init (s : State) : exec .init s = execInit s := rfl
@[simp] theorem exec_hash (s : State) : exec .hash s = execHash s := rfl
@[simp] theorem exec_prehash (s : State) : exec .prehash s = execPrehash s := rfl
@[simp] theorem exec_posthash (s : State) : exec .posthash s = execPosthash s := rfl
@[simp] theorem exec_hashbatch (s : State) : exec .hashbatch s = execHashbatch s := rfl
@[simp] theorem exec_check (s : State) : exec .check s = execCheck s := rfl
@[simp] theorem exec_fill (s : State) : exec .fill s = execFill s := rfl
@[simp] theorem exec_shuf (s : State) : exec .shuf s = execShuf s := rfl
@[simp] theorem exec_fsB (s : State) : exec .fsB s = execFsB s := rfl
@[simp] theorem exec_fsAs (s : State) : exec .fsAs s = execFsAs s := rfl
@[simp] theorem exec_fsS1 (s : State) : exec .fsS1 s = execFsS1 s := rfl
@[simp] theorem exec_fsHs (s : State) : exec .fsHs s = execFsHs s := rfl
@[simp] theorem exec_fsRot (s : State) : exec .fsRot s = execFsRot s := rfl
@[simp] theorem exec_stL01 (s : State) : exec .stL01 s = execStL01 s := rfl
@[simp] theorem exec_stL02 (s : State) : exec .stL02 s = execStL02 s := rfl
@[simp] theorem exec_stL03 (s : State) : exec .stL03 s = execStL03 s := rfl
@[simp] theorem exec_stL04 (s : State) : exec .stL04 s = execStL04 s := rfl
@[simp] theorem exec_stL05 (s : State) : exec .stL05 s = execStL05 s := rfl
@[simp] theorem exec_stL06 (s : State) : exec .stL06 s = execStL06 s := rfl
@[simp] theorem exec_stL07 (s : State) : exec .stL07 s = execStL07 s := rfl
@[simp] theorem exec_stL08 (s : State) : exec .stL08 s = execStL08 s := rfl
@[simp] theorem exec_stL09 (s : State) : exec .stL09 s = execStL09 s := rfl
@[simp] theorem exec_stL10 (s : State) : exec .stL10 s = execStL10 s := rfl
@[simp] theorem exec_stL11 (s : State) : exec .stL11 s = execStL11 s := rfl
@[simp] theorem exec_stL12 (s : State) : exec .stL12 s = execStL12 s := rfl
@[simp] theorem exec_stL13 (s : State) : exec .stL13 s = execStL13 s := rfl
@[simp] theorem exec_stL14 (s : State) : exec .stL14 s = execStL14 s := rfl
@[simp] theorem exec_stL15 (s : State) : exec .stL15 s = execStL15 s := rfl
@[simp] theorem exec_stL16 (s : State) : exec .stL16 s = execStL16 s := rfl
@[simp] theorem exec_stL17 (s : State) : exec .stL17 s = execStL17 s := rfl
@[simp] theorem exec_stL18 (s : State) : exec .stL18 s = execStL18 s := rfl
@[simp] theorem exec_stL19 (s : State) : exec .stL19 s = execStL19 s := rfl
@[simp] theorem exec_stL20 (s : State) : exec .stL20 s = execStL20 s := rfl
@[simp] theorem exec_stL21 (s : State) : exec .stL21 s = execStL21 s := rfl
@[simp] theorem exec_stL22 (s : State) : exec .stL22 s = execStL22 s := rfl
@[simp] theorem exec_stL23 (s : State) : exec .stL23 s = execStL23 s := rfl
@[simp] theorem exec_stL24 (s : State) : exec .stL24 s = execStL24 s := rfl
@[simp] theorem exec_stL25 (s : State) : exec .stL25 s = execStL25 s := rfl
@[simp] theorem exec_stL26 (s : State) : exec .stL26 s = execStL26 s := rfl
@[simp] theorem exec_stL27 (s : State) : exec .stL27 s = execStL27 s := rfl
@[simp] theorem exec_stRot (s : State) : exec .stRot s = execStRot s := rfl
@[simp] theorem exec_redLoad (s : State) : exec .redLoad s = execRedLoad s := rfl
@[simp] theorem exec_redEmit (s : State) : exec .redEmit s = execRedEmit s := rfl
@[simp] theorem exec_hinit (s : State) : exec .hinit s = execHinit s := rfl
@[simp] theorem exec_ldin (s : State) : exec .ldin s = execLdin s := rfl
@[simp] theorem exec_adv (s : State) : exec .adv s = execAdv s := rfl
@[simp] theorem exec_resume (s : State) : exec .resume s = execResume s := rfl

/-! ### Micro-addresses (30_encoding.md R93) -/

@[simp] theorem microAddress_check : microAddress .check = 0x20#8 := rfl
@[simp] theorem microAddress_fill : microAddress .fill = 0x21#8 := rfl
@[simp] theorem microAddress_shuf : microAddress .shuf = 0x22#8 := rfl
@[simp] theorem microAddress_fsB : microAddress .fsB = 0x41#8 := rfl
@[simp] theorem microAddress_fsAs : microAddress .fsAs = 0x42#8 := rfl
@[simp] theorem microAddress_fsS1 : microAddress .fsS1 = 0x43#8 := rfl
@[simp] theorem microAddress_fsHs : microAddress .fsHs = 0x44#8 := rfl
@[simp] theorem microAddress_fsRot : microAddress .fsRot = 0x45#8 := rfl
@[simp] theorem microAddress_stL01 : microAddress .stL01 = 0x61#8 := rfl
@[simp] theorem microAddress_stL02 : microAddress .stL02 = 0x62#8 := rfl
@[simp] theorem microAddress_stL03 : microAddress .stL03 = 0x63#8 := rfl
@[simp] theorem microAddress_stL04 : microAddress .stL04 = 0x64#8 := rfl
@[simp] theorem microAddress_stL05 : microAddress .stL05 = 0x65#8 := rfl
@[simp] theorem microAddress_stL06 : microAddress .stL06 = 0x66#8 := rfl
@[simp] theorem microAddress_stL07 : microAddress .stL07 = 0x67#8 := rfl
@[simp] theorem microAddress_stL08 : microAddress .stL08 = 0x68#8 := rfl
@[simp] theorem microAddress_stL09 : microAddress .stL09 = 0x69#8 := rfl
@[simp] theorem microAddress_stL10 : microAddress .stL10 = 0x6A#8 := rfl
@[simp] theorem microAddress_stL11 : microAddress .stL11 = 0x6B#8 := rfl
@[simp] theorem microAddress_stL12 : microAddress .stL12 = 0x6C#8 := rfl
@[simp] theorem microAddress_stL13 : microAddress .stL13 = 0x6D#8 := rfl
@[simp] theorem microAddress_stL14 : microAddress .stL14 = 0x6E#8 := rfl
@[simp] theorem microAddress_stL15 : microAddress .stL15 = 0x6F#8 := rfl
@[simp] theorem microAddress_stL16 : microAddress .stL16 = 0x70#8 := rfl
@[simp] theorem microAddress_stL17 : microAddress .stL17 = 0x71#8 := rfl
@[simp] theorem microAddress_stL18 : microAddress .stL18 = 0x72#8 := rfl
@[simp] theorem microAddress_stL19 : microAddress .stL19 = 0x73#8 := rfl
@[simp] theorem microAddress_stL20 : microAddress .stL20 = 0x74#8 := rfl
@[simp] theorem microAddress_stL21 : microAddress .stL21 = 0x75#8 := rfl
@[simp] theorem microAddress_stL22 : microAddress .stL22 = 0x76#8 := rfl
@[simp] theorem microAddress_stL23 : microAddress .stL23 = 0x77#8 := rfl
@[simp] theorem microAddress_stL24 : microAddress .stL24 = 0x78#8 := rfl
@[simp] theorem microAddress_stL25 : microAddress .stL25 = 0x79#8 := rfl
@[simp] theorem microAddress_stL26 : microAddress .stL26 = 0x7A#8 := rfl
@[simp] theorem microAddress_stL27 : microAddress .stL27 = 0x7B#8 := rfl
@[simp] theorem microAddress_stRot : microAddress .stRot = 0x7C#8 := rfl
@[simp] theorem microAddress_redLoad : microAddress .redLoad = 0x80#8 := rfl
@[simp] theorem microAddress_redEmit : microAddress .redEmit = 0x81#8 := rfl
@[simp] theorem microAddress_hinit : microAddress .hinit = 0xA0#8 := rfl
@[simp] theorem microAddress_ldin : microAddress .ldin = 0xA1#8 := rfl
@[simp] theorem microAddress_adv : microAddress .adv = 0xA2#8 := rfl
@[simp] theorem microAddress_resume : microAddress .resume = 0xA3#8 := rfl

@[simp] theorem decodeUop_check : decodeUop 0x20#8 = .ok .check := rfl
@[simp] theorem decodeUop_fill : decodeUop 0x21#8 = .ok .fill := rfl
@[simp] theorem decodeUop_shuf : decodeUop 0x22#8 = .ok .shuf := rfl
@[simp] theorem decodeUop_fsB : decodeUop 0x41#8 = .ok .fsB := rfl
@[simp] theorem decodeUop_fsAs : decodeUop 0x42#8 = .ok .fsAs := rfl
@[simp] theorem decodeUop_fsS1 : decodeUop 0x43#8 = .ok .fsS1 := rfl
@[simp] theorem decodeUop_fsHs : decodeUop 0x44#8 = .ok .fsHs := rfl
@[simp] theorem decodeUop_fsRot : decodeUop 0x45#8 = .ok .fsRot := rfl
@[simp] theorem decodeUop_stL01 : decodeUop 0x61#8 = .ok .stL01 := rfl
@[simp] theorem decodeUop_stL02 : decodeUop 0x62#8 = .ok .stL02 := rfl
@[simp] theorem decodeUop_stL03 : decodeUop 0x63#8 = .ok .stL03 := rfl
@[simp] theorem decodeUop_stL04 : decodeUop 0x64#8 = .ok .stL04 := rfl
@[simp] theorem decodeUop_stL05 : decodeUop 0x65#8 = .ok .stL05 := rfl
@[simp] theorem decodeUop_stL06 : decodeUop 0x66#8 = .ok .stL06 := rfl
@[simp] theorem decodeUop_stL07 : decodeUop 0x67#8 = .ok .stL07 := rfl
@[simp] theorem decodeUop_stL08 : decodeUop 0x68#8 = .ok .stL08 := rfl
@[simp] theorem decodeUop_stL09 : decodeUop 0x69#8 = .ok .stL09 := rfl
@[simp] theorem decodeUop_stL10 : decodeUop 0x6A#8 = .ok .stL10 := rfl
@[simp] theorem decodeUop_stL11 : decodeUop 0x6B#8 = .ok .stL11 := rfl
@[simp] theorem decodeUop_stL12 : decodeUop 0x6C#8 = .ok .stL12 := rfl
@[simp] theorem decodeUop_stL13 : decodeUop 0x6D#8 = .ok .stL13 := rfl
@[simp] theorem decodeUop_stL14 : decodeUop 0x6E#8 = .ok .stL14 := rfl
@[simp] theorem decodeUop_stL15 : decodeUop 0x6F#8 = .ok .stL15 := rfl
@[simp] theorem decodeUop_stL16 : decodeUop 0x70#8 = .ok .stL16 := rfl
@[simp] theorem decodeUop_stL17 : decodeUop 0x71#8 = .ok .stL17 := rfl
@[simp] theorem decodeUop_stL18 : decodeUop 0x72#8 = .ok .stL18 := rfl
@[simp] theorem decodeUop_stL19 : decodeUop 0x73#8 = .ok .stL19 := rfl
@[simp] theorem decodeUop_stL20 : decodeUop 0x74#8 = .ok .stL20 := rfl
@[simp] theorem decodeUop_stL21 : decodeUop 0x75#8 = .ok .stL21 := rfl
@[simp] theorem decodeUop_stL22 : decodeUop 0x76#8 = .ok .stL22 := rfl
@[simp] theorem decodeUop_stL23 : decodeUop 0x77#8 = .ok .stL23 := rfl
@[simp] theorem decodeUop_stL24 : decodeUop 0x78#8 = .ok .stL24 := rfl
@[simp] theorem decodeUop_stL25 : decodeUop 0x79#8 = .ok .stL25 := rfl
@[simp] theorem decodeUop_stL26 : decodeUop 0x7A#8 = .ok .stL26 := rfl
@[simp] theorem decodeUop_stL27 : decodeUop 0x7B#8 = .ok .stL27 := rfl
@[simp] theorem decodeUop_stRot : decodeUop 0x7C#8 = .ok .stRot := rfl
@[simp] theorem decodeUop_redLoad : decodeUop 0x80#8 = .ok .redLoad := rfl
@[simp] theorem decodeUop_redEmit : decodeUop 0x81#8 = .ok .redEmit := rfl
@[simp] theorem decodeUop_hinit : decodeUop 0xA0#8 = .ok .hinit := rfl
@[simp] theorem decodeUop_ldin : decodeUop 0xA1#8 = .ok .ldin := rfl
@[simp] theorem decodeUop_adv : decodeUop 0xA2#8 = .ok .adv := rfl
@[simp] theorem decodeUop_resume : decodeUop 0xA3#8 = .ok .resume := rfl
@[simp] theorem decodeUop_zero : decodeUop 0#8 = .error .idle := rfl

/-! ### Accesses that stop the machine (log 11) -/

@[simp] theorem orFault_some {α : Type} (a : α) (f : α → Result) : orFault (some a) f = f a := rfl

@[simp] theorem orFault_none {α : Type} (f : α → Result) : orFault (none : Option α) f = .fault .absentCell := rfl

theorem orFault_eq_next {α : Type} {x : Option α} {f : α → Result} {t : State} (h : orFault x f = .next t) :
    ∃ a, x = some a ∧ f a = .next t := by
  cases x with
  | none => cases h
  | some a => exact ⟨a, rfl, h⟩

theorem withCtx_of {s : State} {c : Ctx} (h : s.ctxs[s.kc.toNat]? = some c) (f : Ctx → Result) : withCtx s f = f c := by
  simp [withCtx, h]

theorem withCtx_eq_next {s t : State} {f : Ctx → Result} (h : withCtx s f = .next t) :
    ∃ c, s.ctxs[s.kc.toNat]? = some c ∧ f c = .next t := by
  unfold withCtx at h
  split at h
  · exact ⟨_, by assumption, h⟩
  · cases h

/-! ### Probes and lanes -/

theorem hasByte_bm {s : State} {a : Nat} : s.hasByte .bm a = true ↔ a < 2 ^ s.inst.bmCapBits := by
  simp [State.hasByte]

theorem probeAddress_le (s : State) (v : Word) : probeAddress s v ≤ s.mask.toNat := by
  simp only [probeAddress, BitVec.toNat_and]
  exact Nat.and_le_right

/-- A probe answers the byte of the masked cell, zero-extended. -/
theorem probe_of {s : State} (h : s.mask.toNat < 2 ^ s.inst.bmCapBits) (v : Word) : probe s v = some (tableOf s v) := by
  have : s.hasByte .bm (probeAddress s v) = true := hasByte_bm.mpr (Nat.lt_of_le_of_lt (probeAddress_le s v) h)
  simp [probe, readByte_of_has this, tableOf]

theorem probe_eq_some {s : State} {v b : Word} (h : probe s v = some b) :
    probeAddress s v < 2 ^ s.inst.bmCapBits ∧ b = tableOf s v := by
  simp only [probe, Option.map_eq_some_iff] at h
  obtain ⟨x, hx, rfl⟩ := h
  obtain ⟨h1, rfl⟩ := readByte_eq_some hx
  exact ⟨hasByte_bm.mp h1, rfl⟩

theorem tableOf_lt (s : State) (v : Word) : (tableOf s v).toNat < 256 := by
  simp only [tableOf, zext64, BitVec.toNat_setWidth]
  have := (s.peekByte .bm (probeAddress s v)).isLt
  omega

theorem laneAtIdx_of {s : State} (h : s.hasLane s.kc.toNat s.idx.toNat = true) :
    laneAtIdx s = some (s.peekLane s.kc.toNat s.idx.toNat) := readLane_of_has h

theorem laneAtIdx_eq_some {s : State} {h : Word} (hs : laneAtIdx s = some h) :
    s.hasLane s.kc.toNat s.idx.toNat = true ∧ h = s.peekLane s.kc.toNat s.idx.toNat := readLane_eq_some hs

/-! ### The shapes of micro-operation -/

theorem wordLine_of {s : State} {c : Ctx} (hc : s.ctxs[s.kc.toNat]? = some c) (w : Ctx → Ctx) (k : Instr) :
    wordLine s w k = .next ((s.setCtx (w c)).goto k) := by
  simp [wordLine, withCtx_of hc]

theorem wordLine_eq_next {s t : State} {w : Ctx → Ctx} {k : Instr} (h : wordLine s w k = .next t) :
    ∃ c, s.ctxs[s.kc.toNat]? = some c ∧ t = (s.setCtx (w c)).goto k := by
  obtain ⟨c, hc, h⟩ := withCtx_eq_next h
  exact ⟨c, hc, (Host.Outcome.next.inj h).symm⟩

theorem probeLine_of {s : State} {c : Ctx} (hc : s.ctxs[s.kc.toNat]? = some c)
    (hm : s.mask.toNat < 2 ^ s.inst.bmCapBits) (x : Ctx → Word) (w : Ctx → Word → Ctx) (k : Instr) :
    probeLine s x w k = .next ((s.setCtx (w c (tableOf s (x c)))).goto k) := by
  simp [probeLine, withCtx_of hc, probe_of hm]

theorem probeLine_eq_next {s t : State} {x : Ctx → Word} {w : Ctx → Word → Ctx} {k : Instr}
    (h : probeLine s x w k = .next t) :
    ∃ c, s.ctxs[s.kc.toNat]? = some c ∧ t = (s.setCtx (w c (tableOf s (x c)))).goto k := by
  obtain ⟨c, hc, h⟩ := withCtx_eq_next h
  obtain ⟨b, hb, h⟩ := orFault_eq_next h
  obtain ⟨-, rfl⟩ := probe_eq_some hb
  exact ⟨c, hc, (Host.Outcome.next.inj h).symm⟩

theorem laneLine_of {s : State} {c : Ctx} (hc : s.ctxs[s.kc.toNat]? = some c)
    (hl : s.hasLane s.kc.toNat s.idx.toNat = true) (w : Ctx → Word → Ctx) (k : Instr) :
    laneLine s w k = .next ((s.setCtx (w c (s.peekLane s.kc.toNat s.idx.toNat))).goto k) := by
  simp [laneLine, withCtx_of hc, laneAtIdx_of hl]

theorem laneLine_eq_next {s t : State} {w : Ctx → Word → Ctx} {k : Instr} (h : laneLine s w k = .next t) :
    ∃ c, s.ctxs[s.kc.toNat]? = some c ∧ t = (s.setCtx (w c (s.peekLane s.kc.toNat s.idx.toNat))).goto k := by
  obtain ⟨c, hc, h⟩ := withCtx_eq_next h
  obtain ⟨b, hb, h⟩ := orFault_eq_next h
  obtain ⟨-, rfl⟩ := laneAtIdx_eq_some hb
  exact ⟨c, hc, (Host.Outcome.next.inj h).symm⟩

theorem laneProbeLine_of {s : State} {c : Ctx} (hc : s.ctxs[s.kc.toNat]? = some c)
    (hl : s.hasLane s.kc.toNat s.idx.toNat = true) (hm : s.mask.toNat < 2 ^ s.inst.bmCapBits) (x : Ctx → Word → Word)
    (w : Ctx → Word → Word → Ctx) (k : Instr) :
    laneProbeLine s x w k =
      .next ((s.setCtx (w c (s.peekLane s.kc.toNat s.idx.toNat)
        (tableOf s (x c (s.peekLane s.kc.toNat s.idx.toNat))))).goto k) := by
  simp [laneProbeLine, withCtx_of hc, laneAtIdx_of hl, probe_of hm]

theorem laneProbeLine_eq_next {s t : State} {x : Ctx → Word → Word} {w : Ctx → Word → Word → Ctx} {k : Instr}
    (h : laneProbeLine s x w k = .next t) :
    ∃ c, s.ctxs[s.kc.toNat]? = some c ∧ t = (s.setCtx (w c (s.peekLane s.kc.toNat s.idx.toNat)
        (tableOf s (x c (s.peekLane s.kc.toNat s.idx.toNat))))).goto k := by
  obtain ⟨c, hc, h⟩ := withCtx_eq_next h
  obtain ⟨b, hb, h⟩ := orFault_eq_next h
  obtain ⟨-, rfl⟩ := laneAtIdx_eq_some hb
  obtain ⟨b, hb, h⟩ := orFault_eq_next h
  obtain ⟨-, rfl⟩ := probe_eq_some hb
  exact ⟨c, hc, (Host.Outcome.next.inj h).symm⟩

theorem storeLane_of {s : State} (hl : s.hasLane s.kc.toNat s.idx.toNat = true) (v : Word) (k : Instr) :
    storeLane s v k = .next ((s.pokeLane s.kc.toNat s.idx.toNat v).goto k) := by
  simp [storeLane, writeLane_of_has v hl]

theorem storeLane_eq_next {s t : State} {v : Word} {k : Instr} (h : storeLane s v k = .next t) :
    s.hasLane s.kc.toNat s.idx.toNat = true ∧ t = (s.pokeLane s.kc.toNat s.idx.toNat v).goto k := by
  obtain ⟨a, ha, h⟩ := orFault_eq_next h
  obtain ⟨h1, rfl⟩ := writeLane_eq_some ha
  exact ⟨h1, (Host.Outcome.next.inj h).symm⟩

@[simp] theorem rotate_rotate_rotate (c : Ctx) : rotate (rotate (rotate c)) = c := rfl

/-! ### Errors and acceptance (60_exceptions.md R253, R254, 30_encoding.md R92) -/

@[simp] theorem firstError_nil : firstError [] = none := rfl

@[simp] theorem firstError_cons_true (e : BlockError) (l : List (Bool × BlockError)) :
    firstError ((true, e) :: l) = some e := rfl

@[simp] theorem firstError_cons_false (e : BlockError) (l : List (Bool × BlockError)) :
    firstError ((false, e) :: l) = firstError l := rfl

theorem firstError_eq_none {l : List (Bool × BlockError)} : firstError l = none ↔ ∀ x ∈ l, x.1 = false := by
  induction l with
  | nil => simp
  | cons x t ih =>
    obtain ⟨b, e⟩ := x
    cases b <;> simp [ih]

/-- An error that is reported is one whose cause holds, and no earlier cause holds. -/
theorem firstError_eq_some {l : List (Bool × BlockError)} {e : BlockError} (h : firstError l = some e) :
    ∃ p q, l = p ++ (true, e) :: q ∧ ∀ x ∈ p, x.1 = false := by
  induction l with
  | nil => cases h
  | cons x t ih =>
    obtain ⟨b, f⟩ := x
    cases b with
    | true =>
      cases h
      exact ⟨[], t, rfl, by simp⟩
    | false =>
      obtain ⟨p, q, rfl, hp⟩ := ih h
      exact ⟨(false, f) :: p, q, rfl, by simpa using hp⟩

theorem acceptance_of_busy {s : State} (h : s.status.busy = true) (o : Byte) (f : Option BlockError) (l : State → State)
    (k : Instr) : acceptance s o f l k = .next s := by simp [acceptance, h]

theorem acceptance_of_failed {s : State} (h : s.status.busy = false) (o : Byte) (e : BlockError) (l : State → State)
    (k : Instr) : acceptance s o (some e) l k = .next (raise e (accepted s)) := by simp [acceptance, h]

theorem acceptance_of_accepted {s : State} (h : s.status.busy = false) (o : Byte) (l : State → State) (k : Instr) :
    acceptance s o none l k = .next (({ l (accepted s) with cmd := o }).goto k) := by simp [acceptance, h]

/-- A write of `CMD` never stops the machine. -/
theorem acceptance_eq_next {s t : State} {o : Byte} {f : Option BlockError} {l : State → State} {k : Instr}
    (h : acceptance s o f l k = .next t) :
    (s.status.busy = true ∧ t = s) ∨ (s.status.busy = false ∧ ∃ e, f = some e ∧ t = raise e (accepted s))
      ∨ (s.status.busy = false ∧ f = none ∧ t = ({ l (accepted s) with cmd := o }).goto k) := by
  cases hb : s.status.busy with
  | true => exact .inl ⟨rfl, by simpa [acceptance, hb] using h.symm⟩
  | false =>
    cases f with
    | some e => exact .inr (.inl ⟨rfl, e, rfl, by simpa [acceptance, hb] using h.symm⟩)
    | none => exact .inr (.inr ⟨rfl, rfl, by simpa [acceptance, hb] using h.symm⟩)

theorem rejectCommand_cases (s : State) :
    (s.status.busy = true ∧ rejectCommand s = s)
      ∨ (s.status.busy = false ∧ rejectCommand s = raise .badOpcode (accepted s)) := by
  cases hb : s.status.busy <;> simp [rejectCommand, hb]

/-! ### Control transfers (45_hash_sequencer.md R212) -/

/-- The four ways `DECIDE` can go. -/
theorem decideNext_cases (s : State) :
    (s.p.toNat < s.n.toNat ∧ decideNext s = s.goto .ldin)
      ∨ (s.n.toNat ≤ s.p.toNat ∧ s.ph = 1 ∧ s.cmd = 0x03 ∧ decideNext s = endHash s)
      ∨ (s.n.toNat ≤ s.p.toNat ∧ s.ph = 1 ∧ s.cmd ≠ 0x03 ∧ 0 < s.n.toNat
          ∧ decideNext s = ({ s with ph := 2, p := 0, idx := 0 }).goto .ldin)
      ∨ (s.n.toNat ≤ s.p.toNat ∧ (s.ph = 1 → s.cmd ≠ 0x03 ∧ s.n.toNat = 0)
          ∧ decideNext s = ({ s with ph := 3, i := s.hashSize - 1 }).goto .redLoad) := by
  unfold decideNext
  split
  · exact .inl ⟨by assumption, rfl⟩
  · rename_i h1
    split
    · rename_i h2
      exact .inr (.inl ⟨by omega, h2.1, h2.2, rfl⟩)
    · rename_i h2
      split
      · rename_i h3
        exact .inr (.inr (.inl ⟨by omega, h3.1, fun h => h2 ⟨h3.1, h⟩, h3.2, rfl⟩))
      · rename_i h3
        exact .inr (.inr (.inr ⟨by omega, fun h => ⟨fun hc => h2 ⟨h, hc⟩,
          Nat.eq_zero_of_not_pos fun h' => h3 ⟨h, h'⟩⟩, rfl⟩))

theorem nextContext_cases (s : State) :
    (s.kc.toNat + 1 < s.nb.toNat ∧ nextContext s = ({ s with kc := s.kc + 1 }).goto .ldin)
      ∨ (s.nb.toNat ≤ s.kc.toNat + 1 ∧ nextContext s = ({ s with kc := 0 }).goto .adv) := by
  unfold nextContext
  split
  · exact .inl ⟨by assumption, rfl⟩
  · exact .inr ⟨by omega, rfl⟩

theorem afterStep_cases (s : State) :
    (s.ph = 3 ∧ afterStep s = s.goto .redEmit) ∨ (s.ph ≠ 3 ∧ afterStep s = nextContext s) := by
  unfold afterStep
  split
  · exact .inl ⟨by assumption, rfl⟩
  · exact .inr ⟨by assumption, rfl⟩

theorem afterEmit_cases (s : State) :
    (s.kc.toNat + 1 < s.nb.toNat ∧ afterEmit s = ({ s with kc := s.kc + 1 }).goto .redLoad)
      ∨ (s.nb.toNat ≤ s.kc.toNat + 1 ∧ 0 < s.i.toNat
          ∧ afterEmit s = ({ s with kc := 0, i := s.i - 1 }).goto .redLoad)
      ∨ (s.nb.toNat ≤ s.kc.toNat + 1 ∧ s.i.toNat = 0 ∧ afterEmit s = endHash { s with kc := 0 }) := by
  unfold afterEmit
  split
  · exact .inl ⟨by assumption, rfl⟩
  · split
    · exact .inr (.inl ⟨by omega, by assumption, rfl⟩)
    · exact .inr (.inr ⟨by omega, by omega, rfl⟩)

/-! ### The builder (40_bytemap_builder.md R125, R127) -/

/-- R125 item 3. -/
theorem shufF_index_le (c : ShufChoice) (r i ps : Word) (bm : Word → Byte) (mk : Word) :
    (shufF c r i ps bm mk).2.toNat ≤ mk.toNat := by
  cases c <;>
  · simp only [shufF, shufFDefault, BitVec.toNat_and]
    exact Nat.and_le_right

theorem exchange_of {s : State} {i j : Nat} (hi : i < 2 ^ s.inst.bmCapBits) (hj : j < 2 ^ s.inst.bmCapBits)
    (f : State → Result) :
    exchange s i j f = f ((s.pokeByte .bm i (s.peekByte .bm j)).pokeByte .bm j (s.peekByte .bm i)) := by
  have h1 : s.hasByte .bm i = true := hasByte_bm.mpr hi
  have h2 : s.hasByte .bm j = true := hasByte_bm.mpr hj
  have h3 : (s.pokeByte .bm i (s.peekByte .bm j)).hasByte .bm j = true := hasByte_bm.mpr hj
  simp [exchange, readByte_of_has h1, readByte_of_has h2, writeByte_of_has _ h1, writeByte_of_has _ h3]

theorem exchange_eq_next {s t : State} {i j : Nat} {f : State → Result} (h : exchange s i j f = .next t) :
    i < 2 ^ s.inst.bmCapBits ∧ j < 2 ^ s.inst.bmCapBits
      ∧ f ((s.pokeByte .bm i (s.peekByte .bm j)).pokeByte .bm j (s.peekByte .bm i)) = .next t := by
  obtain ⟨x, hx, h⟩ := orFault_eq_next h
  obtain ⟨y, hy, h⟩ := orFault_eq_next h
  obtain ⟨u, hu, h⟩ := orFault_eq_next h
  obtain ⟨v, hv, h⟩ := orFault_eq_next h
  obtain ⟨h1, rfl⟩ := readByte_eq_some hx
  obtain ⟨h2, rfl⟩ := readByte_eq_some hy
  obtain ⟨-, rfl⟩ := writeByte_eq_some hu
  obtain ⟨-, rfl⟩ := writeByte_eq_some hv
  exact ⟨hasByte_bm.mp h1, hasByte_bm.mp h2, h⟩

/-- After an exchange cell `i` reads what `j` held, cell `j` what `i` held, and every other cell of every space as before. -/
theorem peekByte_exchanged (s : State) (i j : Nat) (sp : ByteSpace) (a : Nat) :
    ((s.pokeByte .bm i (s.peekByte .bm j)).pokeByte .bm j (s.peekByte .bm i)).peekByte sp a =
      if sp = .bm ∧ a = i then s.peekByte .bm j
      else if sp = .bm ∧ a = j then s.peekByte .bm i
      else s.peekByte sp a := by
  rw [peekByte_pokeByte_bm, peekByte_pokeByte_bm]
  by_cases h : sp = .bm
  · subst h
    by_cases h1 : a = i <;> by_cases h2 : a = j <;> simp_all
  · simp [h]

/-- The counters after a shuffle step, and whether INIT ends with it. -/
theorem shufNext_cases (s : State) :
    ∃ i' ps', i' = (if s.i + 1 = s.mapSize then 0 else s.i + 1) ∧ ps' = (if s.i + 1 = s.mapSize then s.ps + 1 else s.ps)
      ∧ ((ps' = s.passes ∧ shufNext s = endInit { s with i := i', ps := ps' })
        ∨ (ps' ≠ s.passes ∧ shufNext s = ({ s with i := i', ps := ps' }).goto .shuf)) := by
  refine ⟨_, _, rfl, rfl, ?_⟩
  unfold shufNext
  by_cases h : s.i + 1 = s.mapSize
  · simp only [h, if_true]
    by_cases h2 : s.ps + 1 = s.passes
    · exact .inl ⟨h2, if_pos h2⟩
    · exact .inr ⟨h2, if_neg h2⟩
  · simp only [h, if_false]
    by_cases h2 : s.ps = s.passes
    · exact .inl ⟨h2, if_pos h2⟩
    · exact .inr ⟨h2, if_neg h2⟩

/-! ### One step (log 7) -/

theorem step_of_silent {s : State} (h : s.host = []) : step s = uopStep s := by simp [step, slot, h]

theorem step_of_quiet {s : State} {rest : List HostEvent} (h : s.host = .quiet :: rest) :
    step s = uopStep { s with host := rest } := by simp [step, slot, h]

theorem step_of_wait {s : State} {rest : List HostEvent} (h : s.host = .wait :: rest) :
    step s = waitSlot s rest := by simp [step, slot, h]

theorem step_of_rd {s : State} {rest : List HostEvent} {a : BitVec 8} (h : s.host = .rd a :: rest) :
    step s = .next (hostRead { s with host := rest } a) := by simp [step, slot, h]

theorem step_of_wr {s : State} {rest : List HostEvent} {a : BitVec 8} {v : Word} (h : s.host = .wr a v :: rest) :
    step s = hostWrite { s with host := rest } a v := by simp [step, slot, h]

theorem step_of_reset {s : State} {rest : List HostEvent} (h : s.host = .reset :: rest) :
    step s = .next (resetEvent { s with host := rest }) := by simp [step, slot, h]

theorem uopStep_of {s : State} {i : Instr} (h : decodeUop s.upc = .ok i) : uopStep s = exec i s := by
  simp [uopStep, h]

theorem uopStep_of_idle {s : State} (h : s.upc = 0#8) : uopStep s = .next s := by simp [uopStep, h]

/-- The two ways the block's part of a slot answers a next state. -/
theorem uopStep_eq_next {s t : State} (h : uopStep s = .next t) :
    (∃ i, decodeUop s.upc = .ok i ∧ exec i s = .next t) ∨ (decodeUop s.upc = .error .idle ∧ t = s) := by
  unfold uopStep at h
  split at h
  · exact .inl ⟨_, by assumption, h⟩
  · exact .inr ⟨by assumption, (Host.Outcome.next.inj h).symm⟩
  · cases h

/-- Every step is one of these: a micro-operation or nothing, a read, a register write, a write of `CMD`, a reset. -/
theorem step_cases {s t : State} (h : step s = .next t) :
    (∃ host rdata, uopStep { s with host := host, rdata := rdata } = .next t)
      ∨ (∃ rest, s.status.busy = false ∧ t = { s with rdata := statusWord s.status, host := rest })
      ∨ (∃ rest a, t = hostRead { s with host := rest } a)
      ∨ (∃ rest a v, csrOf a ≠ some .cmd ∧ t = registerWrite { s with host := rest } a v)
      ∨ (∃ rest w, commandWrite { s with host := rest } w = .next t)
      ∨ (∃ rest, t = resetEvent { s with host := rest }) := by
  cases hh : s.host with
  | nil => exact .inl ⟨s.host, s.rdata, by rw [step_of_silent hh] at h; exact h⟩
  | cons e rest =>
    cases e with
    | quiet => exact .inl ⟨rest, s.rdata, by rw [step_of_quiet hh] at h; exact h⟩
    | wait =>
      rw [step_of_wait hh, waitSlot] at h
      split at h
      · exact .inl ⟨s.host, _, h⟩
      · exact .inr (.inl ⟨rest, by simpa using ‹¬s.status.busy = true›, (Host.Outcome.next.inj h).symm⟩)
    | rd a =>
      rw [step_of_rd hh] at h
      exact .inr (.inr (.inl ⟨rest, a, (Host.Outcome.next.inj h).symm⟩))
    | wr a v =>
      rw [step_of_wr hh, hostWrite] at h
      split at h
      · exact .inr (.inr (.inr (.inr (.inl ⟨rest, v, h⟩))))
      · exact .inr (.inr (.inr (.inl ⟨rest, a, v, by assumption, (Host.Outcome.next.inj h).symm⟩)))
    | reset =>
      rw [step_of_reset hh] at h
      exact .inr (.inr (.inr (.inr (.inr ⟨rest, (Host.Outcome.next.inj h).symm⟩))))

end Sys2Proof.Machine
end

