-- ==== Sys2Proof/Laws/PerInstr.lean ====
section
/-! SUPPORT. The per-instruction family `RoundTrip` of LAWS.json: every operation is what its own code decodes to. -/

/-- The code of the operation decodes to it (30_encoding.md R91, R93). -/
def Sys2Proof.Laws.RoundTrip.Statement (i : Sys2Proof.Instr) : Prop := Sys2Proof.decode (Sys2Proof.encode i) = .ok i

theorem Sys2Proof.Laws.RoundTrip.init : Sys2Proof.Laws.RoundTrip.Statement .init := rfl

theorem Sys2Proof.Laws.RoundTrip.hash : Sys2Proof.Laws.RoundTrip.Statement .hash := rfl

theorem Sys2Proof.Laws.RoundTrip.prehash : Sys2Proof.Laws.RoundTrip.Statement .prehash := rfl

theorem Sys2Proof.Laws.RoundTrip.posthash : Sys2Proof.Laws.RoundTrip.Statement .posthash := rfl

theorem Sys2Proof.Laws.RoundTrip.hashbatch : Sys2Proof.Laws.RoundTrip.Statement .hashbatch := rfl

theorem Sys2Proof.Laws.RoundTrip.check : Sys2Proof.Laws.RoundTrip.Statement .check := rfl

theorem Sys2Proof.Laws.RoundTrip.fill : Sys2Proof.Laws.RoundTrip.Statement .fill := rfl

theorem Sys2Proof.Laws.RoundTrip.shuf : Sys2Proof.Laws.RoundTrip.Statement .shuf := rfl

theorem Sys2Proof.Laws.RoundTrip.fsB : Sys2Proof.Laws.RoundTrip.Statement .fsB := rfl

theorem Sys2Proof.Laws.RoundTrip.fsAs : Sys2Proof.Laws.RoundTrip.Statement .fsAs := rfl

theorem Sys2Proof.Laws.RoundTrip.fsS1 : Sys2Proof.Laws.RoundTrip.Statement .fsS1 := rfl

theorem Sys2Proof.Laws.RoundTrip.fsHs : Sys2Proof.Laws.RoundTrip.Statement .fsHs := rfl

theorem Sys2Proof.Laws.RoundTrip.fsRot : Sys2Proof.Laws.RoundTrip.Statement .fsRot := rfl

theorem Sys2Proof.Laws.RoundTrip.stL01 : Sys2Proof.Laws.RoundTrip.Statement .stL01 := rfl

theorem Sys2Proof.Laws.RoundTrip.stL02 : Sys2Proof.Laws.RoundTrip.Statement .stL02 := rfl

theorem Sys2Proof.Laws.RoundTrip.stL03 : Sys2Proof.Laws.RoundTrip.Statement .stL03 := rfl

theorem Sys2Proof.Laws.RoundTrip.stL04 : Sys2Proof.Laws.RoundTrip.Statement .stL04 := rfl

theorem Sys2Proof.Laws.RoundTrip.stL05 : Sys2Proof.Laws.RoundTrip.Statement .stL05 := rfl

theorem Sys2Proof.Laws.RoundTrip.stL06 : Sys2Proof.Laws.RoundTrip.Statement .stL06 := rfl

theorem Sys2Proof.Laws.RoundTrip.stL07 : Sys2Proof.Laws.RoundTrip.Statement .stL07 := rfl

theorem Sys2Proof.Laws.RoundTrip.stL08 : Sys2Proof.Laws.RoundTrip.Statement .stL08 := rfl

theorem Sys2Proof.Laws.RoundTrip.stL09 : Sys2Proof.Laws.RoundTrip.Statement .stL09 := rfl

theorem Sys2Proof.Laws.RoundTrip.stL10 : Sys2Proof.Laws.RoundTrip.Statement .stL10 := rfl

theorem Sys2Proof.Laws.RoundTrip.stL11 : Sys2Proof.Laws.RoundTrip.Statement .stL11 := rfl

theorem Sys2Proof.Laws.RoundTrip.stL12 : Sys2Proof.Laws.RoundTrip.Statement .stL12 := rfl

theorem Sys2Proof.Laws.RoundTrip.stL13 : Sys2Proof.Laws.RoundTrip.Statement .stL13 := rfl

theorem Sys2Proof.Laws.RoundTrip.stL14 : Sys2Proof.Laws.RoundTrip.Statement .stL14 := rfl

theorem Sys2Proof.Laws.RoundTrip.stL15 : Sys2Proof.Laws.RoundTrip.Statement .stL15 := rfl

theorem Sys2Proof.Laws.RoundTrip.stL16 : Sys2Proof.Laws.RoundTrip.Statement .stL16 := rfl

theorem Sys2Proof.Laws.RoundTrip.stL17 : Sys2Proof.Laws.RoundTrip.Statement .stL17 := rfl

theorem Sys2Proof.Laws.RoundTrip.stL18 : Sys2Proof.Laws.RoundTrip.Statement .stL18 := rfl

theorem Sys2Proof.Laws.RoundTrip.stL19 : Sys2Proof.Laws.RoundTrip.Statement .stL19 := rfl

theorem Sys2Proof.Laws.RoundTrip.stL20 : Sys2Proof.Laws.RoundTrip.Statement .stL20 := rfl

theorem Sys2Proof.Laws.RoundTrip.stL21 : Sys2Proof.Laws.RoundTrip.Statement .stL21 := rfl

theorem Sys2Proof.Laws.RoundTrip.stL22 : Sys2Proof.Laws.RoundTrip.Statement .stL22 := rfl

theorem Sys2Proof.Laws.RoundTrip.stL23 : Sys2Proof.Laws.RoundTrip.Statement .stL23 := rfl

theorem Sys2Proof.Laws.RoundTrip.stL24 : Sys2Proof.Laws.RoundTrip.Statement .stL24 := rfl

theorem Sys2Proof.Laws.RoundTrip.stL25 : Sys2Proof.Laws.RoundTrip.Statement .stL25 := rfl

theorem Sys2Proof.Laws.RoundTrip.stL26 : Sys2Proof.Laws.RoundTrip.Statement .stL26 := rfl

theorem Sys2Proof.Laws.RoundTrip.stL27 : Sys2Proof.Laws.RoundTrip.Statement .stL27 := rfl

theorem Sys2Proof.Laws.RoundTrip.stRot : Sys2Proof.Laws.RoundTrip.Statement .stRot := rfl

theorem Sys2Proof.Laws.RoundTrip.redLoad : Sys2Proof.Laws.RoundTrip.Statement .redLoad := rfl

theorem Sys2Proof.Laws.RoundTrip.redEmit : Sys2Proof.Laws.RoundTrip.Statement .redEmit := rfl

theorem Sys2Proof.Laws.RoundTrip.hinit : Sys2Proof.Laws.RoundTrip.Statement .hinit := rfl

theorem Sys2Proof.Laws.RoundTrip.ldin : Sys2Proof.Laws.RoundTrip.Statement .ldin := rfl

theorem Sys2Proof.Laws.RoundTrip.adv : Sys2Proof.Laws.RoundTrip.Statement .adv := rfl

theorem Sys2Proof.Laws.RoundTrip.resume : Sys2Proof.Laws.RoundTrip.Statement .resume := rfl
end

