-- ==== Sys2Proof/Tests/Slice0.lean ====
section
/-! SUPPORT. Tests. Expected values are those of the spec: the encodings of 30_encoding.md, the examples inside the rules, and the
vectors of 95_test_vectors.md; each test names its source. At the end, for every obligation with hypotheses, a witness that
meets them. -/

namespace Sys2Proof.Tests

open Sys2Proof Sys2Proof.Machine

/-! ### Decoding: every code written out (30_encoding.md R90, R91, R93) -/

theorem test_decode_init : decode (.command 0b0000000000000000000000000000000000000000000000000000000000000001#64) = .ok .init := by decide
theorem test_decode_hash : decode (.command 0b0000000000000000000000000000000000000000000000000000000000000010#64) = .ok .hash := by decide
theorem test_decode_prehash : decode (.command 0b0000000000000000000000000000000000000000000000000000000000000011#64) = .ok .prehash := by decide
theorem test_decode_posthash : decode (.command 0b0000000000000000000000000000000000000000000000000000000000000100#64) = .ok .posthash := by decide
theorem test_decode_hashbatch : decode (.command 0b0000000000000000000000000000000000000000000000000000000000000101#64) = .ok .hashbatch := by decide
theorem test_decode_check : decode (.uop 0b00100000#8) = .ok .check := by decide
theorem test_decode_fill : decode (.uop 0b00100001#8) = .ok .fill := by decide
theorem test_decode_shuf : decode (.uop 0b00100010#8) = .ok .shuf := by decide
theorem test_decode_fsB : decode (.uop 0b01000001#8) = .ok .fsB := by decide
theorem test_decode_fsAs : decode (.uop 0b01000010#8) = .ok .fsAs := by decide
theorem test_decode_fsS1 : decode (.uop 0b01000011#8) = .ok .fsS1 := by decide
theorem test_decode_fsHs : decode (.uop 0b01000100#8) = .ok .fsHs := by decide
theorem test_decode_fsRot : decode (.uop 0b01000101#8) = .ok .fsRot := by decide
theorem test_decode_stL01 : decode (.uop 0b01100001#8) = .ok .stL01 := by decide
theorem test_decode_stL02 : decode (.uop 0b01100010#8) = .ok .stL02 := by decide
theorem test_decode_stL03 : decode (.uop 0b01100011#8) = .ok .stL03 := by decide
theorem test_decode_stL04 : decode (.uop 0b01100100#8) = .ok .stL04 := by decide
theorem test_decode_stL05 : decode (.uop 0b01100101#8) = .ok .stL05 := by decide
theorem test_decode_stL06 : decode (.uop 0b01100110#8) = .ok .stL06 := by decide
theorem test_decode_stL07 : decode (.uop 0b01100111#8) = .ok .stL07 := by decide
theorem test_decode_stL08 : decode (.uop 0b01101000#8) = .ok .stL08 := by decide
theorem test_decode_stL09 : decode (.uop 0b01101001#8) = .ok .stL09 := by decide
theorem test_decode_stL10 : decode (.uop 0b01101010#8) = .ok .stL10 := by decide
theorem test_decode_stL11 : decode (.uop 0b01101011#8) = .ok .stL11 := by decide
theorem test_decode_stL12 : decode (.uop 0b01101100#8) = .ok .stL12 := by decide
theorem test_decode_stL13 : decode (.uop 0b01101101#8) = .ok .stL13 := by decide
theorem test_decode_stL14 : decode (.uop 0b01101110#8) = .ok .stL14 := by decide
theorem test_decode_stL15 : decode (.uop 0b01101111#8) = .ok .stL15 := by decide
theorem test_decode_stL16 : decode (.uop 0b01110000#8) = .ok .stL16 := by decide
theorem test_decode_stL17 : decode (.uop 0b01110001#8) = .ok .stL17 := by decide
theorem test_decode_stL18 : decode (.uop 0b01110010#8) = .ok .stL18 := by decide
theorem test_decode_stL19 : decode (.uop 0b01110011#8) = .ok .stL19 := by decide
theorem test_decode_stL20 : decode (.uop 0b01110100#8) = .ok .stL20 := by decide
theorem test_decode_stL21 : decode (.uop 0b01110101#8) = .ok .stL21 := by decide
theorem test_decode_stL22 : decode (.uop 0b01110110#8) = .ok .stL22 := by decide
theorem test_decode_stL23 : decode (.uop 0b01110111#8) = .ok .stL23 := by decide
theorem test_decode_stL24 : decode (.uop 0b01111000#8) = .ok .stL24 := by decide
theorem test_decode_stL25 : decode (.uop 0b01111001#8) = .ok .stL25 := by decide
theorem test_decode_stL26 : decode (.uop 0b01111010#8) = .ok .stL26 := by decide
theorem test_decode_stL27 : decode (.uop 0b01111011#8) = .ok .stL27 := by decide
theorem test_decode_stRot : decode (.uop 0b01111100#8) = .ok .stRot := by decide
theorem test_decode_redLoad : decode (.uop 0b10000000#8) = .ok .redLoad := by decide
theorem test_decode_redEmit : decode (.uop 0b10000001#8) = .ok .redEmit := by decide
theorem test_decode_hinit : decode (.uop 0b10100000#8) = .ok .hinit := by decide
theorem test_decode_ldin : decode (.uop 0b10100001#8) = .ok .ldin := by decide
theorem test_decode_adv : decode (.uop 0b10100010#8) = .ok .adv := by decide
theorem test_decode_resume : decode (.uop 0b10100011#8) = .ok .resume := by decide

/-- The host's own reading of the opcode table: the rows of 64 bits and of 8 bits. -/
theorem test_table_words :
    (decodeTableWord 64 5, decodeTableWord 64 0x105, decodeTableWord 64 6, decodeTableWord 8 0x7C, decodeTableWord 8 0x60) =
      (some .hashbatch, none, none, some .stRot, none) := by decide

/-- R94: a reserved bit, a reserved opcode; R93: the idle value and a value the table does not define. -/
theorem test_decode_refusals :
    (decode (.command 0x101), decode (.command 0), decode (.command 0x8000000000000001), decode (.uop 0), decode (.uop 0x7D)) =
      (.error .reservedBits, .error .reservedOpcode, .error .reservedBits, .error .idle, .error .unusedMicroAddress) := by
  decide

/-! ### Well-formedness: one ill-formed term for each check (00_scope.md R6, 30_encoding.md R91) -/

/-- A small instance: the smallest table, four lanes, eight input bytes. -/
def small : Instance where
  bmCapBits := 8
  hsCap := 4
  inCap := 8
  hasSplit := true
  hasBatch := true
  shuf := .dflt

theorem test_wf_small : small.wf = true := by decide
theorem test_wf_map_low : ({ small with bmCapBits := 7 } : Instance).wf = false := by decide
theorem test_wf_map_high : ({ small with bmCapBits := 35 } : Instance).wf = false := by decide
theorem test_wf_no_lane : ({ small with hsCap := 0 } : Instance).wf = false := by decide
theorem test_wf_lanes_high : ({ small with hsCap := 2 ^ 64 } : Instance).wf = false := by decide
theorem test_wf_input_high : ({ small with inCap := 2 ^ 64 + 1 } : Instance).wf = false := by decide
theorem test_wf_input_top : ({ small with inCap := 2 ^ 64 } : Instance).wf = true := by decide
theorem test_wf_bad_instance : Instr.wellFormed { small with hsCap := 0 } .hash = false := by decide
theorem test_wf_no_split :
    (Instr.wellFormed { small with hasSplit := false } .prehash, Instr.wellFormed { small with hasSplit := false } .posthash,
      Instr.wellFormed { small with hasSplit := false } .hashbatch) = (false, false, true) := by decide
theorem test_wf_no_batch :
    (Instr.wellFormed { small with hasBatch := false } .hashbatch, Instr.wellFormed { small with hasBatch := false } .prehash) =
      (false, true) := by decide

/-! ### One step on a small state -/

/-- A context with the given words and lanes; its input buffer starts with the byte 0x61. -/
def context (as s1 s2 s3 : Word) (lanes : List (Nat × Word)) : Ctx where
  as := as
  s1 := s1
  s2 := s2
  s3 := s3
  hs := lanes
  inp := [(0, 0x61)]
  out := []

/-- Cells of the unshuffled table: the address is the byte (R124). -/
def identity (cells : List Nat) : List Host.Cell := cells.map fun a => (a, BitVec.ofNat 8 a)

/-- HASH at work in pass `ph` on the small instance, `MK` 0xFF, `HASHSIZE` 4, `idx` 1, `v2` 0x61, the listed table cells alone
written: a probe elsewhere reads a free value and fails the test. -/
def working (ph : BitVec 2) (c : Ctx) (cells : List Nat) : State :=
  { State.fresh small 2 with
    status := busyStatus true
    mapSizeBits := 8, mapSize := 256, mask := 0xFF, hashSize := 4
    cmd := 2, n := 4, nb := 1
    ph := ph, p := 1, idx := 1, v2 := 0x61
    ctxs := [c, Ctx.blank]
    bm := identity cells }

/-- A view of the next state; none if there is none. -/
def look {α : Type} (view : State → α) (x : Result) : Option α :=
  match x with
  | .next t => some (view t)
  | .fault _ => none
  | .refused _ => none

/-- `upc` and a word of context 0. -/
def wordOf (f : Ctx → Word) (t : State) : BitVec 8 × Option Word := (t.upc, (t.ctxs[0]?).map f)

/-- `upc` and lane 1 of context 0. -/
def laneOf (t : State) : BitVec 8 × Word := (t.upc, t.peekLane 0 1)

/-- The four running words of context 0. -/
def words (t : State) : Option (Word × Word × Word × Word) := (t.ctxs[0]?).map wordsOf

-- Step: the running example of 43_step.md R161, line by line (the examples inside R162 to R188).
theorem test_stL01 :
    look (wordOf Ctx.s1) (exec .stL01 (working 2 (context 0x0123456789ABCDEF 0xFEDCBA9876543210 0x0F1E2D3C4B5A6978
      0x1122334455667788 [(1, 0xA5A5A5A55A5A5A5A)]) [0x0E])) = some (0x62, some 0xC73828C71AE5F497) := by decide
theorem test_stL02 :
    look (wordOf Ctx.s1) (exec .stL02 (working 2 (context 0x0123456789ABCDEF 0xC73828C71AE5F497 0x0F1E2D3C4B5A6978
      0x1122334455667788 [(1, 0xA5A5A5A55A5A5A5A)]) [0xF6])) = some (0x63, some 0xFFE21DFBBFE25772) := by decide
theorem test_stL03 :
    look (wordOf Ctx.s1) (exec .stL03 (working 2 (context 0x0123456789ABCDEF 0xFFE21DFBBFE25772 0x0F1E2D3C4B5A6978
      0x1122334455667788 [(1, 0xA5A5A5A55A5A5A5A)]) [0x41])) = some (0x64, some 0xF0F139E40654758E) := by decide
theorem test_stL04 :
    look (wordOf Ctx.s1) (exec .stL04 (working 2 (context 0x0123456789ABCDEF 0xF0F139E40654758E 0x0F1E2D3C4B5A6978
      0x1122334455667788 [(1, 0xA5A5A5A55A5A5A5A)]) [0x96])) = some (0x65, some 0x8E48A9F9339ED3AC) := by decide
theorem test_stL05 :
    look laneOf (exec .stL05 (working 2 (context 0x0123456789ABCDEF 0x8E48A9F9339ED3AC 0x0F1E2D3C4B5A6978
      0x1122334455667788 [(1, 0xA5A5A5A55A5A5A5A)]) [])) = some (0x66, 0x5DBC131EBA32E191) := by decide
theorem test_stL06 :
    look (wordOf Ctx.as) (exec .stL06 (working 2 (context 0x0123456789ABCDEF 0x8E48A9F9339ED3AC 0x0F1E2D3C4B5A6978
      0x1122334455667788 [(1, 0x5DBC131EBA32E191)]) [0xA8])) = some (0x67, some 0x048EA085940D8883) := by decide
theorem test_stL07 :
    look (wordOf Ctx.as) (exec .stL07 (working 2 (context 0x048EA085940D8883 0x8E48A9F9339ED3AC 0x0F1E2D3C4B5A6978
      0x1122334455667788 [(1, 0x5DBC131EBA32E191)]) [0x2F])) = some (0x68, some 0xD48166910391C690) := by decide
theorem test_stL08 :
    look (wordOf Ctx.as) (exec .stL08 (working 2 (context 0xD48166910391C690 0x8E48A9F9339ED3AC 0x0F1E2D3C4B5A6978
      0x1122334455667788 [(1, 0x5DBC131EBA32E191)]) [0x21])) = some (0x69, some 0xB2E18305C14E2B8D) := by decide
theorem test_stL09 :
    look (wordOf Ctx.as) (exec .stL09 (working 2 (context 0xB2E18305C14E2B8D 0x8E48A9F9339ED3AC 0x0F1E2D3C4B5A6978
      0x1122334455667788 [(1, 0x5DBC131EBA32E191)]) [0x40])) = some (0x6A, some 0xC31057B2FCEF31C5) := by decide
theorem test_stL10 :
    look (wordOf Ctx.s1) (exec .stL10 (working 2 (context 0xC31057B2FCEF31C5 0x8E48A9F9339ED3AC 0x0F1E2D3C4B5A6978
      0x1122334455667788 [(1, 0x5DBC131EBA32E191)]) [0x38])) = some (0x6B, some 0xE744AB3AFA94D8E3) := by decide
theorem test_stL11 :
    look (wordOf Ctx.s1) (exec .stL11 (working 2 (context 0xC31057B2FCEF31C5 0xE744AB3AFA94D8E3 0x0F1E2D3C4B5A6978
      0x1122334455667788 [(1, 0x5DBC131EBA32E191)]) [0x82])) = some (0x6C, some 0x3A2263F28D7503BE) := by decide
theorem test_stL12 :
    look (wordOf Ctx.s1) (exec .stL12 (working 2 (context 0xC31057B2FCEF31C5 0x3A2263F28D7503BE 0x0F1E2D3C4B5A6978
      0x1122334455667788 [(1, 0x5DBC131EBA32E191)]) [0x65])) = some (0x6D, some 0x2264B6C10B52DAA0) := by decide
theorem test_stL13 :
    look (wordOf Ctx.s1) (exec .stL13 (working 2 (context 0xC31057B2FCEF31C5 0x2264B6C10B52DAA0 0x0F1E2D3C4B5A6978
      0x1122334455667788 [(1, 0x5DBC131EBA32E191)]) [0x04])) = some (0x6E, some 0x993C8219B433014D) := by decide
theorem test_stL14 :
    look (wordOf Ctx.as) (exec .stL14 (working 2 (context 0xC31057B2FCEF31C5 0x993C8219B433014D 0x0F1E2D3C4B5A6978
      0x1122334455667788 [(1, 0x5DBC131EBA32E191)]) [0x8D])) = some (0x6F, some 0x5820FF77092EA1F5) := by decide
theorem test_stL15 :
    look (wordOf Ctx.as) (exec .stL15 (working 2 (context 0x5820FF77092EA1F5 0x993C8219B433014D 0x0F1E2D3C4B5A6978
      0x1122334455667788 [(1, 0x5DBC131EBA32E191)]) [0xDC])) = some (0x70, some 0xFE5E53A3ADF846C3) := by decide
theorem test_stL16 :
    look (wordOf Ctx.as) (exec .stL16 (working 2 (context 0xFE5E53A3ADF846C3 0x993C8219B433014D 0x0F1E2D3C4B5A6978
      0x1122334455667788 [(1, 0x5DBC131EBA32E191)]) [0x7B])) = some (0x71, some 0xCD86872215B7A2C0) := by decide
theorem test_stL17 :
    look (wordOf Ctx.as) (exec .stL17 (working 2 (context 0xCD86872215B7A2C0 0x993C8219B433014D 0x0F1E2D3C4B5A6978
      0x1122334455667788 [(1, 0x5DBC131EBA32E191)]) [0xEC])) = some (0x72, some 0x52FA533CB7CDA760) := by decide
theorem test_stL18 :
    look (wordOf Ctx.s1) (exec .stL18 (working 2 (context 0x52FA533CB7CDA760 0x993C8219B433014D 0x0F1E2D3C4B5A6978
      0x1122334455667788 [(1, 0x5DBC131EBA32E191)]) [0x67])) = some (0x73, some 0x664D8049072BF729) := by decide
theorem test_stL19 :
    look (wordOf Ctx.s1) (exec .stL19 (working 2 (context 0x52FA533CB7CDA760 0x664D8049072BF729 0x0F1E2D3C4B5A6978
      0x1122334455667788 [(1, 0x5DBC131EBA32E191)]) [0x48])) = some (0x74, some 0x4C197F060FE9C6DC) := by decide
theorem test_stL20 :
    look (wordOf Ctx.s1) (exec .stL20 (working 2 (context 0x52FA533CB7CDA760 0x4C197F060FE9C6DC 0x0F1E2D3C4B5A6978
      0x1122334455667788 [(1, 0x5DBC131EBA32E191)]) [0x58])) = some (0x75, some 0xCBF1B350AEF71638) := by decide
theorem test_stL21 :
    look (wordOf Ctx.s1) (exec .stL21 (working 2 (context 0x52FA533CB7CDA760 0xCBF1B350AEF71638 0x0F1E2D3C4B5A6978
      0x1122334455667788 [(1, 0x5DBC131EBA32E191)]) [0x77])) = some (0x76, some 0xFE8625CDFE12A4B1) := by decide
theorem test_stL22 :
    look (wordOf Ctx.s2) (exec .stL22 (working 2 (context 0x52FA533CB7CDA760 0xFE8625CDFE12A4B1 0x0F1E2D3C4B5A6978
      0x1122334455667788 [(1, 0x5DBC131EBA32E191)]) [0x4A])) = some (0x77, some 0x86774BA0B2568ADC) := by decide
theorem test_stL23 :
    look (wordOf Ctx.s2) (exec .stL23 (working 2 (context 0x52FA533CB7CDA760 0xFE8625CDFE12A4B1 0x86774BA0B2568ADC
      0x1122334455667788 [(1, 0x5DBC131EBA32E191)]) [0xDC])) = some (0x78, some 0x9DD6DB96C8A1C5B4) := by decide
theorem test_stL24 :
    look (wordOf Ctx.s2) (exec .stL24 (working 2 (context 0x52FA533CB7CDA760 0xFE8625CDFE12A4B1 0x9DD6DB96C8A1C5B4
      0x1122334455667788 [(1, 0x5DBC131EBA32E191)]) [0xE9])) = some (0x79, some 0xB6CF0C9E0874B438) := by decide
theorem test_stL25 :
    look (wordOf Ctx.s2) (exec .stL25 (working 2 (context 0x52FA533CB7CDA760 0xFE8625CDFE12A4B1 0xB6CF0C9E0874B438
      0x1122334455667788 [(1, 0x5DBC131EBA32E191)]) [0x8B])) = some (0x7A, some 0x6CF0C88D19527E86) := by decide
theorem test_stL26 :
    look (wordOf Ctx.s1) (exec .stL26 (working 2 (context 0x52FA533CB7CDA760 0xFE8625CDFE12A4B1 0x6CF0C88D19527E86
      0x1122334455667788 [(1, 0x5DBC131EBA32E191)]) [])) = some (0x7B, some 0x0C423330FC082A83) := by decide
theorem test_stL27 :
    look (wordOf Ctx.as) (exec .stL27 (working 2 (context 0x52FA533CB7CDA760 0x0C423330FC082A83 0x6CF0C88D19527E86
      0x1122334455667788 [(1, 0x5DBC131EBA32E191)]) [0xD2])) = some (0x7C, some 0xF22294519C25544F) := by decide

-- 43_step.md R189: the state after the rotation; pass 2 goes on to ADV, pass 3 to RED.EMIT (45_hash_sequencer.md R212).
theorem test_stRot :
    look words (exec .stRot (working 2 (context 0xF22294519C25544F 0x0C423330FC082A83 0x6CF0C88D19527E86 0x1122334455667788 []) [])) =
      some (some (0xF22294519C25544F, 0x1122334455667788, 0x0C423330FC082A83, 0x6CF0C88D19527E86)) := by decide
theorem test_stRot_next :
    (look State.upc (exec .stRot (working 2 (context 1 2 3 4 []) [])),
      look State.upc (exec .stRot (working 3 (context 1 2 3 4 []) []))) = (some 0xA2, some 0x81) := by decide

-- FastStep: the running example of 42_faststep.md R150 (the examples inside R151 to R155).
theorem test_fsB :
    look (fun t => (t.upc, t.bt)) (exec .fsB (working 1 (context 0x0123456789ABCDEF 0 0 0 []) [0x8E])) = some (0x42, 0x8E) := by
  decide
theorem test_fsAs :
    look (wordOf Ctx.as) (exec .fsAs { working 1 (context 0x0123456789ABCDEF 0 0 0 []) [] with bt := 0x8E }) =
      some (0x43, some 0x91ABA9EFE732416E) := by decide
/-- V-FS-6 of 95_test_vectors.md: `v2` alone. -/
theorem test_fsAs_input :
    look (wordOf Ctx.as) (exec .fsAs { working 1 (context 0 0 0 0 []) [] with v2 := 0xFF, bt := 0xFF }) =
      some (0x43, some 0xF0FF0F) := by decide
theorem test_fsS1 :
    look (wordOf Ctx.s1) (exec .fsS1 (working 1 (context 0 0xFEDCBA9876543210 0 0 [(1, 0xA5A5A5A55A5A5A5A)]) [])) =
      some (0x44, some 0x030B021AFCF4FC18) := by decide
theorem test_fsHs :
    look laneOf (exec .fsHs (working 1 (context 0x91ABA9EFE732416E 0x030B021AFCF4FC18 0 0 []) [])) =
      some (0x45, 0x92A0ABF51BC6BD76) := by decide
theorem test_fsRot :
    look words (exec .fsRot (working 1
      (context 0x91ABA9EFE732416E 0x030B021AFCF4FC18 0x0F1E2D3C4B5A6978 0x1122334455667788 []) [])) =
      some (some (0x91ABA9EFE732416E, 0x1122334455667788, 0x030B021AFCF4FC18, 0x0F1E2D3C4B5A6978)) := by decide
/-- 45_hash_sequencer.md R212: the next context's LDIN before ADV. -/
theorem test_fsRot_next :
    look (fun t => (t.upc, t.kc)) (exec .fsRot { working 1 (context 0 0 0 0 []) [] with nb := 2 }) = some (0xA1, 1) := by
  decide

-- Reduction: the examples of 44_reduction.md R201 and R202.
theorem test_redLoad :
    look (fun t => (t.upc, t.v2, t.idx)) (exec .redLoad { working 3 (context 0 0 0 0 [(3, 0)]) [] with i := 3 }) =
      some (0x61, 0, 3) := by decide
theorem test_redEmit :
    look (fun t => (t.upc, t.i, t.peekByte (.out 0) 3)) (exec .redEmit
      { working 3 (context 0xC2DCAFBD916C9603 0 0 0 [(3, 0xFAD2ECECF76F095E)]) [0x03, 0x5E] with i := 3 }) =
      some (0x80, 2, 0x5D) := by decide
/-- R202 and 45_hash_sequencer.md R215: lane 0 is the last; STATUS 0x06. -/
theorem test_redEmit_last :
    look (fun t => (t.upc, statusWord t.status)) (exec .redEmit
      { working 3 (context 0 0 0 0 [(0, 0)]) [0] with i := 0 }) = some (0, 0x06) := by decide

-- Sequencer: the examples of 45_hash_sequencer.md R211, R213, R214 and 46_optional_commands.md R232.
theorem test_hinit :
    look (fun t => (words t, (List.range 4).map (t.peekLane 0)))
      (exec .hinit { working 1 (context 1 2 3 4 []) [] with seed := 0xFAFAECECFAFAECEC }) =
      some (some (0xFAFAECECFAFAECEC, 0, 0, 0), [0, 0, 0, 0]) := by decide
/-- V-SPLIT-5: PREHASH of nothing ends after HINIT; without it the reduction starts at lane 3 (R203). -/
theorem test_hinit_empty :
    (look State.upc (exec .hinit { working 1 (context 1 2 3 4 []) [] with n := 0, cmd := 3 }),
      look (fun t => (t.upc, t.ph, t.i)) (exec .hinit { working 1 (context 1 2 3 4 []) [] with n := 0 })) =
      (some 0, some (0x80, 3, 3)) := by decide
theorem test_ldin :
    look (fun t => (t.upc, t.v2)) (exec .ldin { working 1 (context 0 0 0 0 []) [] with p := 0 }) = some (0x41, 0x61) := by
  decide
/-- 46_optional_commands.md R237: below `m` the prefix, above it the context's own buffer. -/
theorem test_ldin_batch :
    (look State.v2 (exec .ldin { working 2 (context 0 0 0 0 []) [] with cmd := 5, m := 2, pfx := [(1, 0x62)] }),
      look State.v2 (exec .ldin { working 2 (context 0 0 0 0 []) [] with cmd := 5, m := 1, pfx := [(1, 0x62)] })) =
      (some 0x62, some 0x61) := by decide
theorem test_adv :
    look (fun t => (t.upc, t.p, t.idx)) (exec .adv { working 1 (context 0 0 0 0 []) [] with p := 3, idx := 3, n := 10 }) =
      some (0xA1, 4, 0) := by decide
/-- R212: after the last position of pass 1, pass 2 from position 0. -/
theorem test_adv_pass2 :
    look (fun t => (t.upc, t.ph, t.p)) (exec .adv { working 1 (context 0 0 0 0 []) [] with p := 3, idx := 3 }) =
      some (0xA1, 2, 0) := by decide
theorem test_resume :
    look (fun t => (t.upc, t.p, t.idx)) (exec .resume { working 0 (context 0 0 0 0 []) [] with cmd := 4, m := 3, n := 5 }) =
      some (0xA1, 3, 3) := by decide
/-- V-SPLIT-4: `idx = 4 mod 4 = 0`; V-SPLIT-3: `m = n` goes straight to pass 2. -/
theorem test_resume_wrap :
    (look State.idx (exec .resume { working 0 (context 0 0 0 0 []) [] with cmd := 4, m := 4, n := 5 }),
      look State.ph (exec .resume { working 0 (context 0 0 0 0 []) [] with cmd := 4, m := 5, n := 5 })) =
      (some 0, some 2) := by decide

/-- INIT at work, at the builder's position `i`, on an instance of 2^10 table bytes. -/
def building (i : Word) (cells : List Nat) : State :=
  { State.fresh { small with bmCapBits := 10 } 1 with
    status := busyStatus false
    seed := 1, mapSizeBits := 10, hashSize := 4, passes := 1, mapSize := 0x400, mask := 0x3FF
    cmd := 1, r := 1, i := i
    bm := identity cells }

-- Builder: the examples of 40_bytemap_builder.md R120, R121, R124, R126, R127.
theorem test_check_error :
    look (fun t => (t.upc, statusWord t.status))
      (exec .check { building 0 [] with cSeed := 5, cMb := 7, cHsz := 32, cPas := 5 }) = some (0, 0x00020108) := by decide
theorem test_check :
    look (fun t => (t.upc, t.mapSize, t.mask, t.hashSize)) (exec .check { building 0 [] with cMb := 8, cHsz := 4 }) =
      some (0x21, 256, 0xFF, 4) := by decide
theorem test_fill :
    look (fun t => (t.upc, t.i, t.peekByte .bm 0x200)) (exec .fill (building 0x200 [])) = some (0x21, 0x201, 0x00) := by decide
theorem test_fill_last :
    (look (fun t => (t.upc, t.i, t.peekByte .bm 0x3FF)) (exec .fill (building 0x3FF [])),
      look (fun t => (t.upc, statusWord t.status)) (exec .fill { building 0x3FF [] with passes := 0 })) =
      (some (0x22, 0, 0xFF), some (0, 0x06)) := by decide
theorem test_shuf :
    look (fun t => (t.r, t.j, t.peekByte .bm 1, t.peekByte .bm 197)) (exec .shuf
      { building 1 (List.range 256) with r := 0x0010010104040400, mapSize := 256, mask := 0xFF }) = some (0x00141D60549420C5, 197, 197, 1) := by decide
/-- V-SHUF-7 and V-SHUF-9 of 95_test_vectors.md. -/
theorem test_shuf_default :
    (shufFDefault 0x0123456789ABCDEF 7 4 (fun a => a.setWidth 8) 0xFF,
      shufFDefault 0 0 (1 <<< 24) (fun a => a.setWidth 8) 0xFF) =
      ((0x92BDC5B9B18DC138, 0x38), (0x0000000000800000, 0)) := by decide

/-- An idle, configured block. -/
def idle : State :=
  { State.fresh small 2 with
    status := { Status.idle with configured := true }
    mapSizeBits := 8, mapSize := 256, mask := 0xFF, hashSize := 4
    argHashsize := 4, argMapbits := 8
    len := 5, plen := 3, nbatch := 2 }

-- Commands: acceptance (30_encoding.md R92), the latches of R210, R230, R233, R235, and 60_exceptions.md R253.
theorem test_init :
    look (fun t => (t.upc, statusWord t.status, t.cmd, t.cMb)) (exec .init idle) = some (0x20, 0x01, 1, 8) := by decide
theorem test_hash :
    look (fun t => (t.upc, statusWord t.status, t.n, t.m, t.nb)) (exec .hash idle) = some (0xA0, 0x03, 5, 0, 1) := by decide
/-- NOT_CONFIGURED before BAD_LENGTH (R254). -/
theorem test_hash_unconfigured :
    look (fun t => (t.upc, statusWord t.status)) (exec .hash { idle with status := Status.idle, len := 9 }) =
      some (0, 0x00020308) := by decide
theorem test_prehash :
    look (fun t => (t.upc, t.n, t.m, t.nb, t.cmd)) (exec .prehash idle) = some (0xA0, 3, 0, 1, 3) := by decide
theorem test_posthash :
    look (fun t => (t.upc, t.n, t.m, t.nb, t.cmd)) (exec .posthash idle) = some (0xA3, 5, 3, 1, 4) := by decide
theorem test_posthash_length :
    look (fun t => statusWord t.status) (exec .posthash { idle with plen := 6 }) = some 0x0003030A := by decide
theorem test_hashbatch :
    look (fun t => (t.upc, t.n, t.m, t.nb, t.cmd)) (exec .hashbatch idle) = some (0xA0, 8, 3, 2, 5) := by decide
theorem test_hashbatch_count :
    look (fun t => statusWord t.status) (exec .hashbatch { idle with nbatch := 3 }) = some 0x0004030A := by decide

-- The host's side: 10_state.md R28 to R30.
/-- An illegal word raises BAD_OPCODE and keeps CONFIGURED (R94). -/
theorem test_bad_opcode :
    look (fun t => statusWord t.status) (step { idle with host := [.wr 0x00 0x105] }) = some 0x0001030A := by decide
theorem test_read_only :
    look (fun t => (t.mapSize, t.host)) (step { idle with host := [.wr 0x14 7] }) = some (256, []) := by decide
theorem test_capability : look State.rdata (step { idle with host := [.rd 0x34] }) = some 3 := by decide
theorem test_window :
    look (fun t => t.peekByte .pfx 7) (step { idle with waddr := 7, host := [.wr 0x23 0x1FF] }) = some 0xFF := by decide

/-- A word of the table placed where the step takes it runs as that operation (log 10). -/
theorem test_fetch :
    (look State.upc (step ((idle.withFetchWord 64 2))), look State.upc (step ((idle.withFetchWord 8 0xA0)))) =
      (some 0xA0, some 0x80) := by decide

/-! ### Witnesses: a concrete state that meets the hypotheses of each obligation that has any -/

theorem cellGet_identity (l : List Nat) (a : Nat) (h : a ∈ l) : cellGet (identity l) a = some (BitVec.ofNat 8 a) := by
  induction l with
  | nil => cases h
  | cons b l ih =>
    by_cases e : a = b
    · simp [identity, cellGet, e]
    · have h' : a ∈ l := by simpa [e] using h
      simpa [identity, cellGet, e] using ih h'

theorem identity_ok (count cap : Nat) (h : count ≤ cap) : memoryOk cap (identity (List.range count)) := by
  constructor
  · exact List.pairwise_map.2 (List.pairwise_lt_range (n := count))
  · intro x hx
    obtain ⟨a, ha, rfl⟩ := List.mem_map.1 hx
    exact lt_of_lt_of_le (List.mem_range.1 ha) h

theorem empty_ok {α : Type} (cap : Nat) : memoryOk cap ([] : List (Nat × α)) := ⟨List.Pairwise.nil, by simp⟩

theorem blank_ok (c : Instance) : ctxOk c Ctx.blank := ⟨empty_ok _, empty_ok _, empty_ok _⟩

/-- The idle block with the whole unshuffled table, the host about to do what is given, and the given lengths and count. -/
def ready (host : List HostEvent) (len plen nbatch : Word) : State :=
  { idle with bm := identity (List.range 256), host := host, len := len, plen := plen, nbatch := nbatch }

theorem idle_config : configOk idle :=
  ⟨by decide, by decide, by decide, by decide, by decide, by decide, by decide⟩

theorem ready_sound (host : List HostEvent) (len plen nbatch : Word) : Sound (ready host len plen nbatch) := by
  refine ⟨rfl, (by decide : 1 ≤ idle.nCtx ∧ idle.nCtx < 2 ^ 64), ⟨identity_ok 256 256 le_rfl, empty_ok _, ?_⟩, ?_, ?_, ?_⟩
  · intro c hc
    have : c = Ctx.blank := by simpa [ready, idle, State.fresh] using hc
    exact this ▸ blank_ok _
  · show statusOk { Status.idle with configured := true }
    simp [statusOk, Status.idle]
  · intro _
    exact idle_config
  · exact ⟨rfl, fun h => absurd h (by simp [ready, idle])⟩

theorem ready_filled (host : List HostEvent) (len plen nbatch : Word) : tableFilled (ready host len plen nbatch) 256 := by
  intro a ha
  show (cellGet (identity (List.range 256)) a).getD _ = _
  rw [cellGet_identity _ _ (List.mem_range.2 ha)]
  rfl

theorem ready_table (host : List HostEvent) (len plen nbatch : Word) : TableInv (ready host len plen nbatch) :=
  ⟨fun h => absurd h (by decide : ¬ idle.upc = microAddress .fill),
    fun _ => ⟨id, fun _ h => h, fun _ _ _ _ e => e, ready_filled host len plen nbatch⟩,
    fun _ _ => ready_filled host len plen nbatch⟩

/-- INIT at its first FILL. -/
def filling : State :=
  { State.fresh small 2 with
    status := busyStatus false
    mapSizeBits := 8, mapSize := 256, mask := 0xFF, hashSize := 4, passes := 1
    cmd := 1, upc := 0x21 }

theorem filling_sound : Sound filling := by
  refine ⟨by decide, by decide, ⟨empty_ok _, empty_ok _, ?_⟩, ?_, ?_, ?_⟩
  · intro c hc
    have : c = Ctx.blank := by simpa [filling, State.fresh] using hc
    exact this ▸ blank_ok _
  · show statusOk (busyStatus false)
    simp [statusOk, busyStatus]
  · intro h
    exact absurd h (by decide)
  · exact ⟨rfl, ⟨rfl, ⟨by decide, by decide, by decide, by decide, by decide, by decide, by decide⟩, by decide⟩, rfl⟩

theorem filling_table : TableInv filling :=
  ⟨fun _ a ha => absurd ha (by simp [filling, State.fresh]), fun h => absurd h (by decide), fun h => absurd h (by decide)⟩

/-- HASH at LDIN, in pass 1 at position 1. -/
def loading : State :=
  { ready [] 4 0 1 with
    status := busyStatus true, cmd := 2, n := 4, nb := 1, ph := 1, p := 1, idx := 1, upc := 0xA1 }

theorem loading_sound : Sound loading := by
  have h := ready_sound [] 4 0 1
  refine ⟨h.inst, h.contexts, h.memories, ?_, h.config, ?_⟩
  · show statusOk (busyStatus true)
    simp [statusOk, busyStatus]
  · refine ⟨rfl, ⟨rfl, .inl rfl, by decide, by decide, fun _ => rfl, by decide, fun _ => by decide, ?_⟩, by decide,
      .inl rfl, fun _ => rfl, by decide, by decide⟩
    intro e
    exact absurd e (by decide)

theorem loading_table : TableInv loading :=
  ⟨fun h => absurd h (by decide), fun _ => ⟨id, fun _ h => h, fun _ _ _ _ e => e, ready_filled [] 4 0 1⟩,
    fun _ _ => ready_filled [] 4 0 1⟩

theorem test_witness_StepRunsMicroOperationAtUpc :
    decodeUop filling.upc = .ok .fill ∧ filling.host = []
      ∧ ({ filling with host := [.quiet] } : State).host = .quiet :: []
      ∧ ({ filling with host := [.wait] } : State).host = .wait :: [] ∧ filling.status.busy = true :=
  ⟨by decide, rfl, rfl, rfl, rfl⟩

theorem test_witness_StepRunsCommandWritten :
    (ready [.wr 0x00 0x05] 5 3 2).host = .wr 0x00 0x05 :: [] ∧ decodeCommand 0x05 = .ok .hashbatch := ⟨rfl, by decide⟩

theorem test_witness_IdleBlockChangesNothing :
    (Sound (ready [] 0 0 0) ∧ Sound (ready [.quiet] 0 0 0) ∧ Sound (ready [.wait] 0 0 0))
      ∧ (ready [] 0 0 0).status.busy = false ∧ (ready [.wait] 0 0 0).host = .wait :: [] :=
  ⟨⟨ready_sound _ _ _ _, ready_sound _ _ _ _, ready_sound _ _ _ _⟩, rfl, rfl⟩

/-- A present command; a reserved OPCODE on either side of the five, a bit of 63:8, and an absent command. -/
theorem test_witness_IllegalWordOnlyRecordsTheError :
    (ready [.wr 0x00 0x06] 0 0 0).host = .wr 0x00 0x06 :: [] ∧ (ready [.wr 0x00 0x06] 0 0 0).status.busy = false
      ∧ (Instr.init.present small = true ∧ encode .init = .command 0x01)
      ∧ (∀ w ∈ [0x00, 0x06, 0x101, 0x8000000000000001], ∀ i : Instr, i.present small = true → encode i ≠ .command w)
      ∧ ∀ i : Instr, i.present { small with hasSplit := false } = true → encode i ≠ .command 0x03 := by
  refine ⟨rfl, rfl, ⟨rfl, rfl⟩, ?_, ?_⟩
  · intro w hw i _
    simp only [List.mem_cons, List.not_mem_nil, or_false] at hw
    rcases hw with rfl | rfl | rfl | rfl <;> cases i <;> simp [encode]
  · intro i
    cases i <;> simp [encode, Instr.present]

/-- Each cause of R253 and none, at the boundary of its range. -/
theorem test_witness_IllegalCommandCausesInOrder :
    (ready [] 0 0 0).status.busy = false
      ∧ (illegalCause (ready [] 0 0 0) 0x06, illegalCause { ready [] 0 0 0 with status := Status.idle } 0x02,
          illegalCause (ready [] 9 0 1) 0x02, illegalCause (ready [] 8 9 1) 0x04, illegalCause (ready [] 8 8 0) 0x05,
          illegalCause (ready [] 8 8 3) 0x05) = (some 1, some 2, some 3, some 3, some 4, some 4)
      ∧ (illegalCause (ready [] 8 8 2) 0x05, illegalCause (ready [] 8 8 2) 0x04, illegalCause (ready [] 8 8 2) 0x01) =
          (none, none, none) := ⟨rfl, by decide, by decide⟩

theorem test_witness_CommandIgnoredWhileBusy : Instr.hashbatch ∈ commands ∧ filling.status.busy = true := by decide

theorem test_witness_InitIsAccepted : (ready [] 0 0 0).status.busy = false := rfl

/-- Each command at the upper bounds of its checks. -/
theorem test_witness_HashCommandsAreAccepted :
    let s := ready [] 8 8 2
    s.status.busy = false ∧ s.status.configured = true ∧ s.len.toNat = s.inst.inCap ∧ s.plen.toNat = s.inst.inCap
      ∧ s.plen.toNat ≤ s.len.toNat ∧ s.inst.hasSplit = true ∧ s.inst.hasBatch = true
      ∧ s.plen.toNat + s.len.toNat < 2 ^ 64 ∧ 1 ≤ s.nbatch.toNat ∧ s.nbatch.toNat = s.nCtx := by decide

/-- A reserved number, CMD, a read-only number, a busy block, and CTXSEL at N_CTX. -/
theorem test_witness_RegisterAccessRules :
    (idle.status.busy = false ∧ (0xFF#8 ∉ definedNumbers ∧ 0x16#8 ∉ definedNumbers)
        ∧ (0x01#8 ∉ writableNumbers ∧ 0x14#8 ∉ writableNumbers ∧ 0x24#8 ∉ writableNumbers))
      ∧ (filling.status.busy = true ∧ 0x00#8 ≠ 0x01#8)
      ∧ (let s : State := { idle with ctxsel := 2 }
         s.status.busy = false ∧ s.nCtx ≤ s.ctxsel.toNat ∧ 0x1A#8 ∈ contextNumbers ∧ 0x24#8 ∈ contextNumbers)
      ∧ (∃ t, step { idle with host := [.rd 0x14] } = .next t) ∧ ∃ t, step { idle with host := [.wr 0x02 7] } = .next t := by
  exact ⟨by decide, by decide, by decide, ⟨_, rfl⟩, ⟨_, rfl⟩⟩

theorem test_witness_ReadsFollowTheRegisterMap : idle.status.busy = false := rfl

/-- The last cell of each window and the first beyond it. -/
theorem test_witness_WritesFollowTheRegisterMap :
    (idle.status.busy = false ∧ idle.ctxs[idle.ctxsel.toNat]? = some Ctx.blank)
      ∧ (let s : State := { idle with ctxsel := 1, waddr := 3 }
         s.ctxsel.toNat + 1 = s.nCtx ∧ s.waddr.toNat + 1 = s.inst.hsCap)
      ∧ (let s : State := { idle with ctxsel := 1, waddr := 7 }
         s.ctxsel.toNat + 1 = s.nCtx ∧ s.waddr.toNat + 1 = s.inst.inCap)
      ∧ (let s : State := { idle with waddr := 4 }
         s.inst.hsCap ≤ s.waddr.toNat)
      ∧ (let s : State := { idle with waddr := 8 }
         s.inst.inCap ≤ s.waddr.toNat) := by decide

theorem test_witness_CapabilitiesNeverChange : idle.status.busy = false ∧ ∃ t, step idle = .next t := ⟨rfl, ⟨_, rfl⟩⟩

/-- Both ends of each range. -/
theorem test_witness_CheckLatchesTheConfiguration :
    let c : Instance := { small with bmCapBits := 34 }
    let s : State := { State.fresh c 1 with cHsz := 4, cMb := 34 }
    let t : State := { State.fresh c 1 with cHsz := 1, cMb := 8 }
    (1 ≤ s.cHsz.toNat ∧ s.cHsz.toNat ≤ s.inst.hsCap ∧ 8 ≤ s.cMb.toNat ∧ s.cMb.toNat ≤ 34 ∧ s.cMb.toNat ≤ s.inst.bmCapBits)
      ∧ (1 ≤ t.cHsz.toNat ∧ t.cHsz.toNat ≤ t.inst.hsCap ∧ 8 ≤ t.cMb.toNat ∧ t.cMb.toNat ≤ 34
        ∧ t.cMb.toNat ≤ t.inst.bmCapBits) := by decide

/-- Each branch: the four causes, in order, and none. -/
theorem test_witness_CheckReportsTheFirstCause :
    let s (hsz mb : Word) : State := { State.fresh small 1 with cHsz := hsz, cMb := mb }
    (s 0 40).cHsz.toNat = 0 ∧ ((s 1 7).cMb.toNat < 8 ∧ 34 < (s 1 35).cMb.toNat) ∧ (s 5 34).inst.hsCap < (s 5 34).cHsz.toNat
      ∧ (s 4 9).inst.bmCapBits < (s 4 9).cMb.toNat ∧ (checkError (s 4 8)).isNone = true := by decide

/-- The last cell of the RAM. -/
theorem test_witness_FillWritesOneCell :
    let s : State := { filling with i := 255 }
    s.i.toNat + 1 = 2 ^ s.inst.bmCapBits := by decide

theorem test_witness_ShuffleExchangesTwoCells :
    let s : State := { filling with i := 255, upc := 0x22 }
    s.i.toNat + 1 = 2 ^ s.inst.bmCapBits ∧ s.mask.toNat + 1 = 2 ^ s.inst.bmCapBits := by decide

/-- Two tables that differ above `MK` only. -/
theorem test_witness_SteppingFunctionMeetsItsContract :
    (∀ a : Word, a.toNat ≤ (0 : Word).toNat → (0 : Byte) = if a = 0 then 0 else 1) ∧ (1 : Word).toNat > (0 : Word).toNat := by
  refine ⟨fun a h => ?_, by decide⟩
  have : a = 0 := BitVec.eq_of_toNat_eq (by simpa using h)
  simp [this]

theorem test_witness_ProbeReadsTheMaskedCell :
    configOk (ready [] 0 0 0)
      ∧ (0x100 : Word).toNat % 2 ^ (ready [] 0 0 0).mapSizeBits.toNat
        = (0 : Word).toNat % 2 ^ (ready [] 0 0 0).mapSizeBits.toNat :=
  ⟨⟨by decide, by decide, by decide, by decide, by decide, by decide, by decide⟩, by decide⟩

/-- A context, probes in range, the last lane, and the passes each clause asks for: what the statements about lines need. -/
theorem test_witness_RotationMovesThreeWords :
    (working 2 Ctx.blank []).ctxs[(working 2 Ctx.blank []).kc.toNat]? = some Ctx.blank ∧ (working 2 Ctx.blank []).ph = 2
      ∧ (working 3 Ctx.blank []).ph = 3 := by decide
theorem test_witness_FastStepLines :
    let s : State := { working 1 Ctx.blank [] with idx := 3 }
    s.ctxs[s.kc.toNat]? = some Ctx.blank ∧ s.mask.toNat + 1 = 2 ^ s.inst.bmCapBits ∧ s.idx.toNat + 1 = s.inst.hsCap := by
  decide
theorem test_witness_FastStepIsItsListing :
    let s : State := { working 1 Ctx.blank [] with idx := 3, upc := 0x41 }
    probing s Ctx.blank ∧ s.idx.toNat + 1 = s.inst.hsCap ∧ s.host = [] ∧ s.upc = 0x41 :=
  ⟨⟨by decide, by decide⟩, by decide, rfl, rfl⟩
theorem test_witness_StepLinesOneToFive :
    let s : State := { working 2 Ctx.blank [] with idx := 3 }
    s.ctxs[s.kc.toNat]? = some Ctx.blank ∧ s.mask.toNat + 1 = 2 ^ s.inst.bmCapBits ∧ s.idx.toNat + 1 = s.inst.hsCap := by
  decide
theorem test_witness_StepLinesSixToThirteen :
    let s : State := working 2 Ctx.blank []
    s.ctxs[s.kc.toNat]? = some Ctx.blank ∧ s.mask.toNat < 2 ^ s.inst.bmCapBits := by decide
theorem test_witness_StepLinesFourteenToTwentyOne :
    let s : State := working 3 Ctx.blank []
    s.ctxs[s.kc.toNat]? = some Ctx.blank ∧ s.mask.toNat < 2 ^ s.inst.bmCapBits := by decide
theorem test_witness_StepLinesTwentyTwoToTwentySeven :
    let s : State := { working 3 Ctx.blank [] with idx := 0 }
    s.ctxs[s.kc.toNat]? = some Ctx.blank ∧ s.mask.toNat < 2 ^ s.inst.bmCapBits ∧ s.idx.toNat < s.inst.hsCap := by decide
theorem test_witness_StepLinesFollowTheSchedule :
    probing (working 2 Ctx.blank []) Ctx.blank ∧ (working 2 Ctx.blank []).idx.toNat < (working 2 Ctx.blank []).inst.hsCap
      ∧ (scheduleTable.map Row.line).length = 27 := ⟨⟨by decide, by decide⟩, by decide, by decide⟩
theorem test_witness_StepIsItsListing :
    let s : State := { working 2 Ctx.blank [] with idx := 3, upc := 0x61 }
    let t : State := { working 3 Ctx.blank [] with upc := 0x61 }
    (probing s Ctx.blank ∧ s.idx.toNat + 1 = s.inst.hsCap ∧ s.host = [] ∧ s.upc = 0x61 ∧ s.ph = 2)
      ∧ (probing t Ctx.blank ∧ t.idx.toNat < t.inst.hsCap ∧ t.host = [] ∧ t.upc = 0x61 ∧ t.ph = 3) :=
  ⟨⟨⟨by decide, by decide⟩, by decide, rfl, rfl, rfl⟩, ⟨by decide, by decide⟩, by decide, rfl, rfl, rfl⟩
theorem test_witness_ReductionLoadsAndEmits :
    let s : State := { working 3 Ctx.blank [] with i := 3 }
    s.kc.toNat < s.nCtx ∧ s.i.toNat + 1 = s.inst.hsCap ∧ probing s Ctx.blank := ⟨by decide, by decide, by decide, by decide⟩

/-- As many contexts and lanes as the instance has. -/
theorem test_witness_HinitLoadsTheInitialState :
    let s : State := { working 1 Ctx.blank [] with nb := 2 }
    s.nb.toNat = s.nCtx ∧ s.hashSize.toNat = s.inst.hsCap := by decide

/-- The prefix's last cell, the buffer's first, and HASH. -/
theorem test_witness_LdinFetchesTheInputByte :
    let s : State := { working 1 Ctx.blank [] with cmd := 5, m := 8, p := 7 }
    let t : State := { working 2 Ctx.blank [] with cmd := 5, m := 8, p := 8 }
    let u : State := { working 2 Ctx.blank [] with p := 7 }
    (s.cmd = 0x05 ∧ s.p.toNat < s.m.toNat ∧ s.p.toNat < s.inst.inCap)
      ∧ (t.cmd = 0x05 ∧ t.m.toNat ≤ t.p.toNat ∧ t.kc.toNat < t.nCtx ∧ t.p.toNat - t.m.toNat < t.inst.inCap)
      ∧ (u.cmd ≠ 0x05 ∧ 0 < u.nCtx ∧ u.p.toNat + 1 = u.inst.inCap) := by decide

theorem test_witness_AdvAndResumeSetThePosition :
    let s : State := { working 1 Ctx.blank [] with p := 3, idx := 3 }
    s.hashSize ≠ 0 ∧ s.p.toNat + 1 < 2 ^ 64 ∧ s.idx.toNat = s.p.toNat % s.hashSize.toNat := by decide

/-- Operations that answer a next state, for the frames: a store to the table, to a lane, a load of all contexts. -/
theorem test_witness_OperationsLeaveRegistersAlone :
    (∃ t, exec .fill filling = .next t) ∧ Instr.fill ≠ .check := ⟨⟨_, rfl⟩, by decide⟩
theorem test_witness_LatchesHaveTheirLoaders :
    (∃ t, exec .adv loading = .next t) ∧ Instr.adv ∉ commands ∧ Instr.adv ≠ .ldin := ⟨⟨_, rfl⟩, by decide, by decide⟩
theorem test_witness_WordsHaveTheirWriters :
    (∃ t, exec .fsRot loading = .next t) ∧ (∃ t, exec .hinit loading = .next t)
      ∧ loading.ctxs[loading.kc.toNat]? = some Ctx.blank ∧ Instr.fsRot ∉ asWriters :=
  ⟨⟨_, rfl⟩, ⟨_, rfl⟩, by decide, by decide⟩
theorem test_witness_OperationsStoreOnlyTheirCells :
    (∃ t, exec .fill filling = .next t) ∧ ¬storesByte .fill filling .bm 1 ∧ ¬storesLane .fill filling 0 0 :=
  ⟨⟨_, rfl⟩, by simp [storesByte, filling, State.fresh], by simp [storesLane]⟩

/-- Two states that differ in a running word, a lane and the seed. -/
theorem test_witness_NoBranchingOnData :
    let s := working 1 (context 1 2 3 4 []) []
    let s' : State := { working 1 (context 5 6 7 8 [(1, 9)]) [] with seed := 10 }
    hashOperation .fsHs ∧ controlOf s = controlOf s' ∧ (∃ t, exec .fsHs s = .next t) ∧ (∃ t', exec .fsHs s' = .next t')
      ∧ s ≠ s' :=
  ⟨⟨by decide, by decide, by decide, by decide⟩, rfl, ⟨_, rfl⟩, ⟨_, rfl⟩, by decide⟩

/-- A builder state, a hash state and an idle one, each with a step. -/
theorem test_witness_StepKeepsTheInvariant :
    (Sound filling ∧ ∃ t, step filling = .next t) ∧ (Sound loading ∧ ∃ t, step { loading with host := [.reset] } = .next t)
      ∧ (Sound (ready [.wr 0x00 0x02] 4 0 0) ∧ ∃ t, step (ready [.wr 0x00 0x02] 4 0 0) = .next t) :=
  ⟨⟨filling_sound, _, rfl⟩, ⟨loading_sound, _, rfl⟩, ready_sound _ _ _ _, _, rfl⟩
theorem test_witness_SoundStateAlwaysSteps : Sound filling ∧ Sound loading ∧ Sound (ready [.rd 0x20] 0 0 0) :=
  ⟨filling_sound, loading_sound, ready_sound _ _ _ _⟩
theorem test_witness_AcceptedCommandCannotFail :
    Sound loading ∧ decodeUop loading.upc = .ok .ldin ∧ Instr.ldin ≠ .check := ⟨loading_sound, by decide, by decide⟩
theorem test_witness_TableInvariantKept :
    (Sound filling ∧ TableInv filling ∧ ∃ t, step filling = .next t)
      ∧ (Sound loading ∧ TableInv loading ∧ filling.upc = microAddress .fill) :=
  ⟨⟨filling_sound, filling_table, _, rfl⟩, loading_sound, loading_table, rfl⟩
theorem test_witness_TableIsBalanced :
    Sound (ready [] 0 0 0) ∧ TableInv (ready [] 0 0 0) ∧ (ready [] 0 0 0).status.configured = true :=
  ⟨ready_sound _ _ _ _, ready_table _ _ _ _, rfl⟩
theorem test_witness_UnshuffledTableIsTheLowByte :
    Sound loading ∧ TableInv loading ∧ loading.status.configured = true ∧ loading.passes = 0 :=
  ⟨loading_sound, loading_table, rfl, rfl⟩
theorem test_witness_EveryCommandEnds :
    Sound filling ∧ filling.host = [] ∧ 1 < stepsLeft filling := ⟨filling_sound, rfl, by decide⟩

/-- Each command accepted. -/
theorem test_witness_CommandCounts :
    (ready [] 8 8 2).status.busy = false
      ∧ (∃ t, exec .hash (ready [] 8 8 2) = .next t ∧ t.status.busy = true)
      ∧ (∃ t, exec .prehash (ready [] 8 8 2) = .next t ∧ t.status.busy = true)
      ∧ (∃ t, exec .posthash (ready [] 8 8 2) = .next t ∧ t.status.busy = true)
      ∧ (∃ t, exec .hashbatch (ready [] 8 8 2) = .next t ∧ t.status.busy = true)
      ∧ ∃ t, exec .init (ready [] 8 8 2) = .next t :=
  ⟨rfl, ⟨_, rfl, rfl⟩, ⟨_, rfl, rfl⟩, ⟨_, rfl, rfl⟩, ⟨_, rfl, rfl⟩, _, rfl⟩

/-- Arguments at the upper bounds of the small instance. -/
theorem test_witness_InitBuildsTheTable :
    Sound (ready [.wr 0x00 0x01] 0 0 0)
      ∧ (let s := ready [.wr 0x00 0x01] 0 0 0
         s.status.busy = false ∧ s.host = [.wr 0x00 0x01] ∧ 1 ≤ s.argHashsize.toNat ∧ s.argHashsize.toNat ≤ s.inst.hsCap
           ∧ 8 ≤ s.argMapbits.toNat ∧ s.argMapbits.toNat ≤ 34 ∧ s.argMapbits.toNat ≤ s.inst.bmCapBits) :=
  ⟨ready_sound _ _ _ _, by decide⟩
theorem test_witness_HashComputesTheDigest :
    Sound (ready [.wr 0x00 0x02] 8 0 0)
      ∧ (let s := ready [.wr 0x00 0x02] 8 0 0
         s.status.busy = false ∧ s.status.configured = true ∧ s.host = [.wr 0x00 0x02] ∧ s.len.toNat ≤ s.inst.inCap) :=
  ⟨ready_sound _ _ _ _, by decide⟩
theorem test_witness_PrehashLeavesTheSnapshot :
    Sound (ready [.wr 0x00 0x03] 0 8 0)
      ∧ (let s := ready [.wr 0x00 0x03] 0 8 0
         s.status.busy = false ∧ s.status.configured = true ∧ s.inst.hasSplit = true ∧ s.host = [.wr 0x00 0x03]
           ∧ s.plen.toNat ≤ s.inst.inCap) :=
  ⟨ready_sound _ _ _ _, by decide⟩
theorem test_witness_PosthashFinishesTheHash :
    Sound (ready [.wr 0x00 0x04] 8 8 0)
      ∧ (let s := ready [.wr 0x00 0x04] 8 8 0
         s.status.busy = false ∧ s.status.configured = true ∧ s.inst.hasSplit = true ∧ s.host = [.wr 0x00 0x04]
           ∧ s.len.toNat ≤ s.inst.inCap ∧ s.plen.toNat ≤ s.len.toNat) :=
  ⟨ready_sound _ _ _ _, by decide⟩
theorem test_witness_BatchHashesEveryInput :
    Sound (ready [.wr 0x00 0x05] 8 8 2)
      ∧ (let s := ready [.wr 0x00 0x05] 8 8 2
         s.status.busy = false ∧ s.status.configured = true ∧ s.inst.hasBatch = true ∧ s.host = [.wr 0x00 0x05]
           ∧ s.len.toNat ≤ s.inst.inCap ∧ s.plen.toNat ≤ s.inst.inCap ∧ s.plen.toNat + s.len.toNat < 2 ^ 64
           ∧ 1 ≤ s.nbatch.toNat ∧ s.nbatch.toNat ≤ s.nCtx) :=
  ⟨ready_sound _ _ _ _, by decide⟩
theorem test_witness_SplitHashEqualsWholeHash : 2 ≤ ([0x61, 0x62] : List Byte).length := by decide
theorem test_witness_SplitCommandsGiveTheHash :
    Sound (ready [] 0 0 0)
      ∧ (let s := ready [] 0 0 0
         s.status.busy = false ∧ s.status.configured = true ∧ s.inst.hasSplit = true ∧ (8 : Word).toNat ≤ s.inst.inCap
           ∧ (8 : Word).toNat ≤ (8 : Word).toNat) :=
  ⟨ready_sound _ _ _ _, by decide⟩

end Sys2Proof.Tests
end

/-! What each operation can do to the state, said once: `exec_effect` splits a step of any operation into what it writes
(`DataEffect`) and a move of STATUS, `upc` and the counters (`ControlMove`). The frame statements follow from the cases. -/

namespace Sys2Proof.Machine

open Sys2Proof

variable {s t u : State} {i k : Instr} {c d : Ctx}

/-! ### Control: STATUS, the micro-address and the counters -/

/-- `t` differs from `s` in nothing but STATUS, `upc` and the counters (10_state.md R24, R25, R27). -/
def ControlMove (s t : State) : Prop :=
  ∃ status upc p idx i ps kc ph,
    t = { s with status := status, upc := upc, p := p, idx := idx, i := i, ps := ps, kc := kc, ph := ph }

/-- To be used with `rfl`: `t` is `s` but for the fields of the control. -/
theorem ControlMove.of_eq (h : t = { s with
    status := t.status, upc := t.upc, p := t.p, idx := t.idx, i := t.i, ps := t.ps, kc := t.kc, ph := t.ph }) :
    ControlMove s t := ⟨_, _, _, _, _, _, _, _, h⟩

theorem ControlMove.refl (s : State) : ControlMove s s := .of_eq rfl

theorem ControlMove.goto (s : State) (k : Instr) : ControlMove s (s.goto k) := .of_eq rfl

theorem ControlMove.trans (h : ControlMove s t) (h' : ControlMove t u) : ControlMove s u := by
  obtain ⟨_, _, _, _, _, _, _, _, rfl⟩ := h
  obtain ⟨_, _, _, _, _, _, _, _, rfl⟩ := h'
  exact .of_eq rfl

theorem ControlMove.decideNext (s : State) : ControlMove s (decideNext s) := by
  rcases decideNext_cases s with ⟨-, h⟩ | ⟨-, -, -, h⟩ | ⟨-, -, -, -, h⟩ | ⟨-, -, h⟩ <;>
    exact h ▸ .of_eq rfl

theorem ControlMove.to_decideNext (h : ControlMove s t) : ControlMove s (Machine.decideNext t) := h.trans (.decideNext t)

theorem ControlMove.nextContext (s : State) : ControlMove s (nextContext s) := by
  rcases nextContext_cases s with ⟨-, h⟩ | ⟨-, h⟩ <;> exact h ▸ .of_eq rfl

theorem ControlMove.afterStep (s : State) : ControlMove s (afterStep s) := by
  rcases afterStep_cases s with ⟨-, h⟩ | ⟨-, h⟩
  · exact h ▸ .goto s .redEmit
  · exact h ▸ .nextContext s

theorem ControlMove.afterEmit (s : State) : ControlMove s (afterEmit s) := by
  rcases afterEmit_cases s with ⟨-, h⟩ | ⟨-, -, h⟩ | ⟨-, -, h⟩ <;> exact h ▸ .of_eq rfl

theorem ControlMove.shufNext (s : State) : ControlMove s (shufNext s) := by
  obtain ⟨_, _, -, -, ⟨-, h⟩ | ⟨-, h⟩⟩ := shufNext_cases s <;> exact h ▸ .of_eq rfl

/-! ### Lines: the micro-operations that write one running word of the current context -/

/-- From `c` to `d` operation `i` has written no running word but those that are its to write. -/
structure WordsKept (i : Instr) (c d : Ctx) : Prop where
  as : i ∉ asWriters → d.as = c.as
  s1 : i ∉ s1Writers → d.s1 = c.s1
  s2 : i ∉ s2Writers → d.s2 = c.s2
  s3 : i ∉ s3Writers → d.s3 = c.s3

theorem WordsKept.of_eq (has : d.as = c.as) (h1 : d.s1 = c.s1) (h2 : d.s2 = c.s2) (h3 : d.s3 = c.s3) : WordsKept i c d :=
  ⟨fun _ => has, fun _ => h1, fun _ => h2, fun _ => h3⟩

/-- The same, and the memories of the context are as they were. -/
structure WordsWritten (i : Instr) (c d : Ctx) : Prop extends WordsKept i c d where
  hs : d.hs = c.hs
  inp : d.inp = c.inp
  out : d.out = c.out

theorem WordsWritten.of_as (h : i ∈ asWriters) (c : Ctx) (w : Word) : WordsWritten i c { c with as := w } :=
  ⟨⟨fun h' => absurd h h', fun _ => rfl, fun _ => rfl, fun _ => rfl⟩, rfl, rfl, rfl⟩

theorem WordsWritten.of_s1 (h : i ∈ s1Writers) (c : Ctx) (w : Word) : WordsWritten i c { c with s1 := w } :=
  ⟨⟨fun _ => rfl, fun h' => absurd h h', fun _ => rfl, fun _ => rfl⟩, rfl, rfl, rfl⟩

theorem WordsWritten.of_s2 (h : i ∈ s2Writers) (c : Ctx) (w : Word) : WordsWritten i c { c with s2 := w } :=
  ⟨⟨fun _ => rfl, fun _ => rfl, fun h' => absurd h h', fun _ => rfl⟩, rfl, rfl, rfl⟩

theorem WordsWritten.rotate (h1 : i ∈ s1Writers) (h2 : i ∈ s2Writers) (h3 : i ∈ s3Writers) (c : Ctx) :
    WordsWritten i c (rotate c) :=
  ⟨⟨fun _ => rfl, fun h' => absurd h1 h', fun h' => absurd h2 h', fun h' => absurd h3 h'⟩, rfl, rfl, rfl⟩

/-- The lines that write one running word and nothing else, each with the line after it. -/
def nextLine (i : Instr) : Option Instr :=
  match i with
  | .fsAs => some .fsS1
  | .fsS1 => some .fsHs
  | .stL01 => some .stL02
  | .stL02 => some .stL03
  | .stL03 => some .stL04
  | .stL04 => some .stL05
  | .stL06 => some .stL07
  | .stL07 => some .stL08
  | .stL08 => some .stL09
  | .stL09 => some .stL10
  | .stL10 => some .stL11
  | .stL11 => some .stL12
  | .stL12 => some .stL13
  | .stL13 => some .stL14
  | .stL14 => some .stL15
  | .stL15 => some .stL16
  | .stL16 => some .stL17
  | .stL17 => some .stL18
  | .stL18 => some .stL19
  | .stL19 => some .stL20
  | .stL20 => some .stL21
  | .stL21 => some .stL22
  | .stL22 => some .stL23
  | .stL23 => some .stL24
  | .stL24 => some .stL25
  | .stL25 => some .stL26
  | .stL26 => some .stL27
  | .stL27 => some .stRot
  | _ => none

/-- `t` is `s` after line `i` has written its running word and `upc` has gone on to `k`. -/
def LineStep (i k : Instr) (s t : State) : Prop :=
  ∃ c d, s.ctxs[s.kc.toNat]? = some c ∧ WordsWritten i c d ∧ t = (s.setCtx d).goto k

theorem lineStep_of_wordLine {w : Ctx → Ctx} (hw : ∀ c, WordsWritten i c (w c)) (h : wordLine s w k = .next t) :
    LineStep i k s t := by
  obtain ⟨c, hc, rfl⟩ := wordLine_eq_next h
  exact ⟨c, _, hc, hw c, rfl⟩

theorem lineStep_of_probeLine {x : Ctx → Word} {w : Ctx → Word → Ctx} (hw : ∀ c b, WordsWritten i c (w c b))
    (h : probeLine s x w k = .next t) : LineStep i k s t := by
  obtain ⟨c, hc, rfl⟩ := probeLine_eq_next h
  exact ⟨c, _, hc, hw c _, rfl⟩

theorem lineStep_of_laneLine {w : Ctx → Word → Ctx} (hw : ∀ c l, WordsWritten i c (w c l))
    (h : laneLine s w k = .next t) : LineStep i k s t := by
  obtain ⟨c, hc, rfl⟩ := laneLine_eq_next h
  exact ⟨c, _, hc, hw c _, rfl⟩

theorem lineStep_of_laneProbeLine {x : Ctx → Word → Word} {w : Ctx → Word → Word → Ctx}
    (hw : ∀ c l b, WordsWritten i c (w c l b)) (h : laneProbeLine s x w k = .next t) : LineStep i k s t := by
  obtain ⟨c, hc, rfl⟩ := laneProbeLine_eq_next h
  exact ⟨c, _, hc, hw c _ _, rfl⟩

/-- Every line is a `LineStep` to the line after it: the table of 43_step.md R161 as far as destinations go. -/
theorem exec_nextLine : ∀ {i k : Instr}, nextLine i = some k → exec i s = .next t → LineStep i k s t
  | .fsAs, _, rfl, h => lineStep_of_wordLine (fun c => .of_as (by decide) c _) h
  | .fsS1, _, rfl, h => lineStep_of_laneLine (fun c _ => .of_s1 (by decide) c _) h
  | .stL01, _, rfl, h | .stL02, _, rfl, h | .stL03, _, rfl, h | .stL04, _, rfl, h | .stL10, _, rfl, h
  | .stL11, _, rfl, h | .stL12, _, rfl, h | .stL13, _, rfl, h | .stL18, _, rfl, h | .stL19, _, rfl, h
  | .stL20, _, rfl, h | .stL21, _, rfl, h =>
    lineStep_of_probeLine (fun c _ => .of_s1 (by decide) c _) h
  | .stL06, _, rfl, h | .stL07, _, rfl, h | .stL08, _, rfl, h | .stL09, _, rfl, h | .stL14, _, rfl, h
  | .stL15, _, rfl, h | .stL16, _, rfl, h | .stL17, _, rfl, h =>
    lineStep_of_probeLine (fun c _ => .of_as (by decide) c _) h
  | .stL22, _, rfl, h | .stL23, _, rfl, h | .stL24, _, rfl, h | .stL25, _, rfl, h =>
    lineStep_of_probeLine (fun c _ => .of_s2 (by decide) c _) h
  | .stL26, _, rfl, h => lineStep_of_laneLine (fun c _ => .of_s1 (by decide) c _) h
  | .stL27, _, rfl, h => lineStep_of_laneProbeLine (fun c _ _ => .of_as (by decide) c _) h

/-! ### The other micro-operations: what a step that answers says -/

theorem execFsB_eq_next (h : execFsB s = .next t) : ∃ v, t = ({ s with bt := tableOf s v }).goto .fsAs := by
  obtain ⟨c, -, h⟩ := withCtx_eq_next h
  obtain ⟨b, hb, h⟩ := orFault_eq_next h
  obtain ⟨-, rfl⟩ := probe_eq_some hb
  exact ⟨_, (Host.Outcome.next.inj h).symm⟩

theorem execFsHs_eq_next (h : execFsHs s = .next t) :
    s.hasLane s.kc.toNat s.idx.toNat = true ∧ ∃ v, t = (s.pokeLane s.kc.toNat s.idx.toNat v).goto .fsRot := by
  obtain ⟨c, -, h⟩ := withCtx_eq_next h
  obtain ⟨hl, ht⟩ := storeLane_eq_next h
  exact ⟨hl, _, ht⟩

theorem execStL05_eq_next (h : execStL05 s = .next t) :
    s.hasLane s.kc.toNat s.idx.toNat = true ∧ ∃ v, t = (s.pokeLane s.kc.toNat s.idx.toNat v).goto .stL06 := by
  obtain ⟨c, -, h⟩ := withCtx_eq_next h
  obtain ⟨l, -, h⟩ := orFault_eq_next h
  obtain ⟨hl, ht⟩ := storeLane_eq_next h
  exact ⟨hl, _, ht⟩

theorem execFsRot_eq_next (h : execFsRot s = .next t) :
    ∃ c, s.ctxs[s.kc.toNat]? = some c ∧ t = nextContext (s.setCtx (rotate c)) := by
  obtain ⟨c, hc, h⟩ := withCtx_eq_next h
  exact ⟨c, hc, (Host.Outcome.next.inj h).symm⟩

theorem execStRot_eq_next (h : execStRot s = .next t) :
    ∃ c, s.ctxs[s.kc.toNat]? = some c ∧ t = afterStep (s.setCtx (rotate c)) := by
  obtain ⟨c, hc, h⟩ := withCtx_eq_next h
  exact ⟨c, hc, (Host.Outcome.next.inj h).symm⟩

theorem execRedLoad_eq_next (h : execRedLoad s = .next t) : ∃ v, t = ({ s with v2 := v, idx := s.i }).goto .stL01 := by
  obtain ⟨v, -, h⟩ := orFault_eq_next h
  exact ⟨v, (Host.Outcome.next.inj h).symm⟩

theorem execRedEmit_eq_next (h : execRedEmit s = .next t) :
    s.hasByte (.out s.kc.toNat) s.i.toNat = true
      ∧ ∃ v, t = afterEmit (s.pokeByte (.out s.kc.toNat) s.i.toNat v) := by
  obtain ⟨c, -, h⟩ := withCtx_eq_next h
  obtain ⟨e1, -, h⟩ := orFault_eq_next h
  obtain ⟨l, -, h⟩ := orFault_eq_next h
  obtain ⟨e2, -, h⟩ := orFault_eq_next h
  obtain ⟨u, hu, h⟩ := orFault_eq_next h
  obtain ⟨hb, rfl⟩ := writeByte_eq_some hu
  exact ⟨hb, _, (Host.Outcome.next.inj h).symm⟩

theorem execLdin_eq_next (h : execLdin s = .next t) :
    ∃ b : Byte, (s.ph = 1 ∧ t = ({ s with v2 := zext64 b }).goto .fsB)
      ∨ (s.ph ≠ 1 ∧ t = ({ s with v2 := zext64 b }).goto .stL01) := by
  obtain ⟨b, -, h⟩ := orFault_eq_next h
  refine ⟨b, ?_⟩
  rw [← Host.Outcome.next.inj h]
  by_cases hp : s.ph = 1
  · exact .inl ⟨hp, if_pos hp⟩
  · exact .inr ⟨hp, if_neg hp⟩

/-- The contexts after `HINIT` (45_hash_sequencer.md R211). -/
def initialContexts (s : State) : List Ctx :=
  (s.ctxs.take s.nb.toNat).map (initialContext s.seed s.hashSize.toNat) ++ s.ctxs.drop s.nb.toNat

theorem initialContexts_length (h : s.nb.toNat ≤ s.nCtx) : (initialContexts s).length = s.nCtx := by
  simp only [initialContexts, List.length_append, List.length_map, List.length_take, List.length_drop]
  have : s.nCtx = s.ctxs.length := rfl
  omega

theorem execHinit_eq_next (h : execHinit s = .next t) :
    s.nb.toNat ≤ s.nCtx ∧ s.hashSize.toNat ≤ s.inst.hsCap
      ∧ t = decideNext { s with ctxs := initialContexts s, p := 0, idx := 0, kc := 0, ph := 1 } := by
  unfold execHinit at h
  split at h
  · split at h
    · exact ⟨by assumption, by assumption, (Host.Outcome.next.inj h).symm⟩
    · cases h
  · cases h

/-- The state CHECK goes on from when no cause of 60_exceptions.md R252 holds (40_bytemap_builder.md R121). -/
def latchedConfig (s : State) : State :=
  { unconfigure s with
    seed := s.cSeed, mapSizeBits := s.cMb, hashSize := s.cHsz, passes := s.cPas
    mapSize := mapSizeOf s.cMb, mask := mapSizeOf s.cMb - 1
    r := s.cSeed, i := 0, ps := 0 }

theorem execCheck_eq_next (h : execCheck s = .next t) :
    (∃ e, t = raise e (unconfigure s)) ∨ (checkError s = none ∧ t = (latchedConfig s).goto .fill) := by
  unfold execCheck at h
  split at h
  · exact .inl ⟨_, (Host.Outcome.next.inj h).symm⟩
  · exact .inr ⟨by assumption, (Host.Outcome.next.inj h).symm⟩

theorem execFill_eq_next (h : execFill s = .next t) :
    s.i.toNat < 2 ^ s.inst.bmCapBits ∧ ∃ v,
      let u := s.pokeByte .bm s.i.toNat v
      ((s.i + 1).toNat < s.mapSize.toNat ∧ t = ({ u with i := s.i + 1 }).goto .fill)
        ∨ (s.passes = 0 ∧ t = endInit { u with i := 0 })
        ∨ (s.passes ≠ 0 ∧ t = ({ u with i := 0 }).goto .shuf) := by
  obtain ⟨u, hu, h⟩ := orFault_eq_next h
  obtain ⟨hb, rfl⟩ := writeByte_eq_some hu
  refine ⟨hasByte_bm.mp hb, trunc8 s.i, ?_⟩
  split at h
  · exact .inl ⟨by assumption, (Host.Outcome.next.inj h).symm⟩
  · split at h
    · exact .inr (.inl ⟨by assumption, (Host.Outcome.next.inj h).symm⟩)
    · exact .inr (.inr ⟨by assumption, (Host.Outcome.next.inj h).symm⟩)

theorem execShuf_eq_next (h : execShuf s = .next t) :
    ∃ b x y r j, s.i.toNat < 2 ^ s.inst.bmCapBits ∧ b < 2 ^ s.inst.bmCapBits
      ∧ t = shufNext { (s.pokeByte .bm s.i.toNat x).pokeByte .bm b y with r := r, j := j } := by
  unfold execShuf at h
  split at h
  · obtain ⟨hi, hj, h⟩ := exchange_eq_next h
    exact ⟨_, _, _, _, _, hi, hj, (Host.Outcome.next.inj h).symm⟩
  · cases h

/-! ### What an operation writes, whatever it does to the control -/

/-- `u` is `s` after the writes of operation `i` to configuration, latches, contexts and table; the addresses are in range. -/
inductive DataEffect (s : State) : Instr → State → Prop
  /-- Nothing is written: a command ignored or turned away, `ADV`, `RESUME`. -/
  | none (i : Instr) : DataEffect s i s
  /-- A hash command is accepted (45_hash_sequencer.md R210). -/
  | latch {i : Instr} (hi : i ∈ commands) (cmd : Byte) (n m nb : Word) :
    DataEffect s i { s with cmd := cmd, n := n, m := m, nb := nb }
  /-- `INIT` is accepted (40_bytemap_builder.md R120, R121). -/
  | copy (cmd : Byte) (a b c d : Word) :
    DataEffect s .init { s with cmd := cmd, cSeed := a, cMb := b, cHsz := c, cPas := d }
  /-- `CHECK` clears or latches the configuration (R121). -/
  | configure (a b c d e f r : Word) :
    DataEffect s .check
      { s with seed := a, mapSizeBits := b, hashSize := c, passes := d, mapSize := e, mask := f, r := r }
  | fill (v : Byte) (ha : s.i.toNat < 2 ^ s.inst.bmCapBits) : DataEffect s .fill (s.pokeByte .bm s.i.toNat v)
  | shuf {a b : Nat} (x y : Byte) (r j : Word) (ha : a < 2 ^ s.inst.bmCapBits) (hb : b < 2 ^ s.inst.bmCapBits) :
    DataEffect s .shuf { (s.pokeByte .bm a x).pokeByte .bm b y with r := r, j := j }
  | probe (b : Word) : DataEffect s .fsB { s with bt := b }
  /-- A line or a rotation. -/
  | words {i : Instr} {c d : Ctx} (hc : s.ctxs[s.kc.toNat]? = some c) (hw : WordsWritten i c d) :
    DataEffect s i (s.setCtx d)
  /-- `FS.HS` and `ST.L05`. -/
  | lane (i : Instr) (v : Word) (hl : s.hasLane s.kc.toNat s.idx.toNat = true) :
    DataEffect s i (s.pokeLane s.kc.toNat s.idx.toNat v)
  | load {i : Instr} (hi : i = .ldin ∨ i = .redLoad) (v : Word) : DataEffect s i { s with v2 := v }
  | emit (v : Byte) (hb : s.hasByte (.out s.kc.toNat) s.i.toNat = true) :
    DataEffect s .redEmit (s.pokeByte (.out s.kc.toNat) s.i.toNat v)
  | initial (hn : s.nb.toNat ≤ s.nCtx) (hl : s.hashSize.toNat ≤ s.inst.hsCap) :
    DataEffect s .hinit { s with ctxs := initialContexts s }

/-- Acceptance of a command: what its latches write, unless it is ignored or turned away. -/
theorem acceptance_effect {o : Byte} {f : Option BlockError} {latch : State → State} (h : acceptance s o f latch k = .next t)
    (hu : DataEffect s i u) (hl : ControlMove u { latch (accepted s) with cmd := o }) :
    ∃ u, DataEffect s i u ∧ ControlMove u t := by
  rcases acceptance_eq_next h with ⟨-, rfl⟩ | ⟨-, e, -, rfl⟩ | ⟨-, -, rfl⟩
  · exact ⟨_, .none i, .refl _⟩
  · exact ⟨_, .none i, .of_eq rfl⟩
  · exact ⟨u, hu, hl.trans (.goto _ _)⟩

theorem exec_effect_of_nextLine (hk : nextLine i = some k) (h : exec i s = .next t) :
    ∃ u, DataEffect s i u ∧ ControlMove u t := by
  obtain ⟨c, d, hc, hw, rfl⟩ := exec_nextLine hk h
  exact ⟨_, .words hc hw, .goto _ k⟩

/-- Every operation that answers writes what `DataEffect` allows it and else moves the control. -/
theorem exec_effect (i : Instr) (h : exec i s = .next t) : ∃ u, DataEffect s i u ∧ ControlMove u t := by
  cases i
  case init =>
    rw [exec_init, execInit] at h
    exact acceptance_effect h (.copy 0x01 s.argSeed s.argMapbits s.argHashsize s.argPasses) (.of_eq rfl)
  case hash =>
    rw [exec_hash, execHash] at h
    exact acceptance_effect h (.latch (i := .hash) (by decide) 0x02 s.len 0 1) (.of_eq rfl)
  case prehash =>
    rw [exec_prehash, execPrehash] at h
    exact acceptance_effect h (.latch (i := .prehash) (by decide) 0x03 s.plen 0 1) (.of_eq rfl)
  case posthash =>
    rw [exec_posthash, execPosthash] at h
    exact acceptance_effect h (.latch (i := .posthash) (by decide) 0x04 s.len s.plen 1) (.of_eq rfl)
  case hashbatch =>
    rw [exec_hashbatch, execHashbatch] at h
    exact acceptance_effect h (.latch (i := .hashbatch) (by decide) 0x05 (s.plen + s.len) s.plen s.nbatch) (.of_eq rfl)
  case check =>
    rcases execCheck_eq_next h with ⟨e, rfl⟩ | ⟨-, rfl⟩
    · exact ⟨_, .configure 0 0 0 0 0 0 s.r, .of_eq rfl⟩
    · exact ⟨_, .configure s.cSeed s.cMb s.cHsz s.cPas (mapSizeOf s.cMb) (mapSizeOf s.cMb - 1) s.cSeed, .of_eq rfl⟩
  case fill =>
    obtain ⟨ha, v, ⟨-, rfl⟩ | ⟨-, rfl⟩ | ⟨-, rfl⟩⟩ := execFill_eq_next h <;>
      exact ⟨_, .fill v ha, .of_eq rfl⟩
  case shuf =>
    obtain ⟨b, x, y, r, j, ha, hb, rfl⟩ := execShuf_eq_next h
    exact ⟨_, .shuf x y r j ha hb, .shufNext _⟩
  case fsB =>
    obtain ⟨v, rfl⟩ := execFsB_eq_next h
    exact ⟨_, .probe _, .goto _ _⟩
  case fsHs =>
    obtain ⟨hl, v, rfl⟩ := execFsHs_eq_next h
    exact ⟨_, .lane _ v hl, .goto _ _⟩
  case stL05 =>
    obtain ⟨hl, v, rfl⟩ := execStL05_eq_next h
    exact ⟨_, .lane _ v hl, .goto _ _⟩
  case fsRot =>
    obtain ⟨c, hc, rfl⟩ := execFsRot_eq_next h
    exact ⟨_, .words hc (.rotate (by decide) (by decide) (by decide) c), .nextContext _⟩
  case stRot =>
    obtain ⟨c, hc, rfl⟩ := execStRot_eq_next h
    exact ⟨_, .words hc (.rotate (by decide) (by decide) (by decide) c), .afterStep _⟩
  case redLoad =>
    obtain ⟨v, rfl⟩ := execRedLoad_eq_next h
    exact ⟨_, .load (.inr rfl) v, .of_eq rfl⟩
  case redEmit =>
    obtain ⟨hb, v, rfl⟩ := execRedEmit_eq_next h
    exact ⟨_, .emit v hb, .afterEmit _⟩
  case hinit =>
    obtain ⟨hn, hl, rfl⟩ := execHinit_eq_next h
    exact ⟨_, .initial hn hl, .to_decideNext (.of_eq rfl)⟩
  case ldin =>
    obtain ⟨b, ⟨-, rfl⟩ | ⟨-, rfl⟩⟩ := execLdin_eq_next h <;> exact ⟨_, .load (.inl rfl) _, .goto _ _⟩
  case adv =>
    obtain rfl := Host.Outcome.next.inj h
    exact ⟨_, .none _, .to_decideNext (.of_eq rfl)⟩
  case resume =>
    obtain rfl := Host.Outcome.next.inj h
    exact ⟨_, .none _, .to_decideNext (.of_eq rfl)⟩
  all_goals exact exec_effect_of_nextLine rfl h

end Sys2Proof.Machine

/-! What no operation changes, and who loads each latch and writes each running word (10_state.md R21 to R26): the cases of
`exec_effect` read off. -/

namespace Sys2Proof.Machine

open Sys2Proof

variable {s t u : State} {i : Instr}

/-- An operation changes nothing but STATUS, the configuration, the contexts, the sequencer and the table. -/
theorem exec_frame (i : Instr) (h : exec i s = .next t) :
    t = { s with
      status := t.status, seed := t.seed, mapSizeBits := t.mapSizeBits, hashSize := t.hashSize, passes := t.passes
      mapSize := t.mapSize, mask := t.mask, ctxs := t.ctxs, upc := t.upc, p := t.p, idx := t.idx, i := t.i, ps := t.ps
      kc := t.kc, ph := t.ph, v2 := t.v2, bt := t.bt, r := t.r, j := t.j, cmd := t.cmd, n := t.n, m := t.m, nb := t.nb
      cSeed := t.cSeed, cMb := t.cMb, cHsz := t.cHsz, cPas := t.cPas, bm := t.bm } := by
  obtain ⟨u, hu, _, _, _, _, _, _, _, _, rfl⟩ := exec_effect i h
  cases hu <;> rfl

/-- The configuration registers of `t` are those of `s` (R21). -/
def ConfigKept (s t : State) : Prop :=
  t.seed = s.seed ∧ t.mapSizeBits = s.mapSizeBits ∧ t.hashSize = s.hashSize ∧ t.passes = s.passes
    ∧ t.mapSize = s.mapSize ∧ t.mask = s.mask

theorem exec_configKept (hi : i ≠ .check) (h : exec i s = .next t) : ConfigKept s t := by
  obtain ⟨u, hu, _, _, _, _, _, _, _, _, rfl⟩ := exec_effect i h
  cases hu with
  | configure => exact absurd rfl hi
  | _ => exact ⟨rfl, rfl, rfl, rfl, rfl, rfl⟩

theorem DataEffect.nCtx (h : DataEffect s i u) : u.nCtx = s.nCtx := by
  cases h with
  | words => exact setCtx_nCtx s _
  | lane => exact pokeLane_nCtx s _ _ _
  | emit => exact pokeByte_nCtx s _ _ _
  | initial hn => exact initialContexts_length hn
  | _ => rfl

theorem exec_nCtx (i : Instr) (h : exec i s = .next t) : t.nCtx = s.nCtx := by
  obtain ⟨u, hu, _, _, _, _, _, _, _, _, rfl⟩ := exec_effect i h
  exact (hu.nCtx : u.nCtx = s.nCtx)

/-- Every operation but `HINIT` works on the context `kc` alone, and writes only the running words that are its to write. -/
theorem DataEffect.ctxs (hi : i ≠ .hinit) (h : DataEffect s i u) :
    ∃ f : Ctx → Ctx, u.ctxs = s.ctxs.modify s.kc.toNat f ∧ ∀ c, s.ctxs[s.kc.toNat]? = some c → WordsKept i c (f c) := by
  cases h with
  | words hc hw =>
    refine ⟨fun _ => _, List.set_eq_modify _ _ _, fun c hc' => ?_⟩
    obtain rfl := Option.some.inj (hc'.symm.trans hc)
    exact hw.toWordsKept
  | lane => exact ⟨_, rfl, fun c _ => .of_eq rfl rfl rfl rfl⟩
  | emit => exact ⟨_, rfl, fun c _ => .of_eq rfl rfl rfl rfl⟩
  | initial => exact absurd rfl hi
  | _ => exact ⟨id, (List.modify_id _ _).symm, fun c _ => .of_eq rfl rfl rfl rfl⟩

theorem exec_ctxs (hi : i ≠ .hinit) (h : exec i s = .next t) :
    ∃ f : Ctx → Ctx, t.ctxs = s.ctxs.modify s.kc.toNat f ∧ ∀ c, s.ctxs[s.kc.toNat]? = some c → WordsKept i c (f c) := by
  obtain ⟨u, hu, _, _, _, _, _, _, _, _, rfl⟩ := exec_effect i h
  have hc := hu.ctxs hi
  exact hc

/-- `HINIT` leaves the contexts from `nb` on alone (45_hash_sequencer.md R211). -/
theorem initialContexts_getElem? (hn : s.nb.toNat ≤ s.nCtx) {k : Nat} (hk : s.nb.toNat ≤ k) :
    (initialContexts s)[k]? = s.ctxs[k]? := by
  have hlen : ((s.ctxs.take s.nb.toNat).map (initialContext s.seed s.hashSize.toNat)).length = s.nb.toNat := by
    simpa using hn
  rw [initialContexts, List.getElem?_append_right (hlen.trans_le hk), hlen, List.getElem?_drop, Nat.add_sub_cancel' hk]

/-- Settles O36: `exec_frame` names everything an operation may change. -/
theorem operationsLeaveRegistersAlone : Obligations.OperationsLeaveRegistersAlone := by
  intro i s t h
  refine ⟨?_, ?_, ?_, ?_, ?_, ?_, ?_, ?_, ?_, ?_, exec_nCtx i h, ?_, ?_, ?_, ?_, ?_, fun hi => exec_configKept hi h⟩ <;>
    rw [exec_frame i h]

/-- Settles O37, by the cases of what an operation writes: each latch is named in those of its loaders alone. -/
theorem latchesHaveTheirLoaders : Obligations.LatchesHaveTheirLoaders := by
  intro i s t h
  obtain ⟨u, hu, _, _, _, _, _, _, _, _, rfl⟩ := exec_effect i h
  cases hu with
  | latch hi => exact ⟨fun _ _ => rfl, fun _ => rfl, fun _ _ => rfl, fun _ => rfl, fun h' => absurd hi h',
      fun _ => ⟨rfl, rfl, rfl, rfl⟩⟩
  | copy => exact ⟨fun _ _ => rfl, fun _ => rfl, fun _ _ => rfl, fun _ => rfl, fun h' => absurd (by decide) h',
      fun h' => absurd rfl h'⟩
  | configure => exact ⟨fun _ _ => rfl, fun _ => rfl, fun h' => absurd rfl h', fun _ => rfl, fun _ => ⟨rfl, rfl, rfl, rfl⟩,
      fun _ => ⟨rfl, rfl, rfl, rfl⟩⟩
  | shuf => exact ⟨fun _ _ => rfl, fun _ => rfl, fun _ h' => absurd rfl h', fun h' => absurd rfl h',
      fun _ => ⟨rfl, rfl, rfl, rfl⟩, fun _ => ⟨rfl, rfl, rfl, rfl⟩⟩
  | probe => exact ⟨fun _ _ => rfl, fun h' => absurd rfl h', fun _ _ => rfl, fun _ => rfl, fun _ => ⟨rfl, rfl, rfl, rfl⟩,
      fun _ => ⟨rfl, rfl, rfl, rfl⟩⟩
  | load hi => exact ⟨fun h1 h2 => (hi.elim h1 h2).elim, fun _ => rfl, fun _ _ => rfl, fun _ => rfl,
      fun _ => ⟨rfl, rfl, rfl, rfl⟩, fun _ => ⟨rfl, rfl, rfl, rfl⟩⟩
  | _ => exact ⟨fun _ _ => rfl, fun _ => rfl, fun _ _ => rfl, fun _ => rfl, fun _ => ⟨rfl, rfl, rfl, rfl⟩,
      fun _ => ⟨rfl, rfl, rfl, rfl⟩⟩

/-- Settles O38: an operation other than `HINIT` modifies the context `kc` alone (`exec_ctxs`). -/
theorem wordsHaveTheirWriters : Obligations.WordsHaveTheirWriters := by
  intro i s t h
  refine ⟨fun hi k hk => ?_, fun hi k hk => ?_, fun hi c d hc hd => ?_⟩
  · obtain ⟨f, hf, -⟩ := exec_ctxs hi h
    rw [hf, List.getElem?_modify_ne _ _ (Ne.symm hk)]
  · subst hi
    obtain ⟨hn, -, rfl⟩ := execHinit_eq_next h
    obtain ⟨_, _, _, _, _, _, _, _, hd⟩ := ControlMove.decideNext
      { s with ctxs := initialContexts s, p := 0, idx := 0, kc := 0, ph := 1 }
    rw [hd]
    exact initialContexts_getElem? hn hk
  · obtain ⟨f, hf, hw⟩ := exec_ctxs hi h
    rw [hf, List.getElem?_modify_eq, hc] at hd
    obtain rfl := Option.some.inj hd
    exact ⟨(hw c hc).as, (hw c hc).s1, (hw c hc).s2, (hw c hc).s3⟩

end Sys2Proof.Machine

/-! The register space (10_state.md R27 to R31): what a host read returns, what a host write stores, and what neither
touches. -/

namespace Sys2Proof.Machine

open Sys2Proof

variable {s t : State} {a : BitVec 8} {v : Word} {q : Csr} {rest : List HostEvent}

/-! ### STATUS (R27) -/

/-- Each bit of the STATUS word, by its place (10_state.md R27). -/
theorem statusWord_getElem (t : Status) (n : Nat) (hn : n < 64) :
    (statusWord t)[n] =
      if n = 0 then t.busy else if n = 1 then t.configured else if n = 2 then t.done else if n = 3 then t.err
      else if n < 8 then false else if n < 16 then t.errcode.getLsbD (n - 8)
      else t.errinfo.getLsbD (n - 16) := by
  obtain rfl | rfl | rfl | rfl | h : n = 0 ∨ n = 1 ∨ n = 2 ∨ n = 3 ∨ 4 ≤ n := by omega
  · simp [statusWord, zext64]
  · simp [statusWord, zext64]
  · simp [statusWord, zext64]
  · simp [statusWord, zext64]
  · have flags : n ≠ 0 ∧ n ≠ 1 ∧ n ≠ 2 ∧ n ≠ 3 ∧ n - 1 ≠ 0 ∧ n - 2 ≠ 0 ∧ n - 3 ≠ 0 := by omega
    by_cases h8 : n < 8
    · simp [statusWord, zext64, flags, h8, show n < 16 by omega]
    · by_cases h16 : n < 16
      · simp [statusWord, zext64, flags, h8, h16]
      · simp [statusWord, zext64, flags, h8, h16, BitVec.getLsbD_of_ge t.errcode (n - 8) (by omega)]

/-- Settles O12: every field is read off bit by bit. -/
theorem statusWordFields : Obligations.StatusWordFields := by
  intro t
  refine ⟨?_, ?_, ?_, ?_, ?_, ?_, ?_, ?_⟩
  · simp [statusWord_getElem]
  · simp [statusWord_getElem]
  · simp [statusWord_getElem]
  · simp [statusWord_getElem]
  · refine BitVec.eq_of_getElem_eq fun j hj => ?_
    simp [statusWord_getElem, show 4 + j < 64 by omega, show 4 + j < 8 by omega, show 4 + j ≠ 1 by omega,
      show 4 + j ≠ 2 by omega, show 4 + j ≠ 3 by omega]
  · refine BitVec.eq_of_getElem_eq fun j hj => ?_
    simp [statusWord_getElem, show 8 + j < 64 by omega, show 8 + j < 16 by omega, show 8 + j ≠ 1 by omega,
      show 8 + j ≠ 2 by omega, show 8 + j ≠ 3 by omega, BitVec.getLsbD_eq_getElem hj]
  · refine BitVec.eq_of_getElem_eq fun j hj => ?_
    simp [statusWord_getElem, show 16 + j < 64 by omega, show ¬ 16 + j < 8 by omega, show 16 + j ≠ 1 by omega,
      show 16 + j ≠ 2 by omega, show 16 + j ≠ 3 by omega, BitVec.getLsbD_eq_getElem hj]
  · refine BitVec.eq_of_getElem_eq fun j hj => ?_
    simp [statusWord_getElem, show 24 + j < 64 by omega, show ¬ 24 + j < 8 by omega, show ¬ 24 + j < 16 by omega,
      show 24 + j ≠ 1 by omega, show 24 + j ≠ 2 by omega, show 24 + j ≠ 3 by omega,
      BitVec.getLsbD_of_ge t.errinfo (24 + j - 16) (by omega)]

/-! ### Register numbers (R28) -/

theorem csrLookup_eq_none {l : List (BitVec 8 × Csr)} (h : a ∉ l.map Prod.fst) : csrLookup l a = none := by
  induction l with
  | nil => rfl
  | cons x l ih =>
    obtain ⟨ha, hl⟩ : a ≠ x.1 ∧ a ∉ l.map Prod.fst := by simpa using h
    simp [csrLookup, ha, ih hl]

theorem mem_of_csrLookup {l : List (BitVec 8 × Csr)} (h : csrLookup l a = some q) : (a, q) ∈ l := by
  induction l with
  | nil => cases h
  | cons x l ih =>
    by_cases ha : a = x.1
    · obtain rfl : x.2 = q := by simpa [csrLookup, ha] using h
      simp [ha]
    · exact List.mem_cons_of_mem _ (ih (by simpa [csrLookup, ha] using h))

theorem csrOf_eq_none (h : a ∉ definedNumbers) : csrOf a = none := csrLookup_eq_none (l := csrTable) h

theorem csrOf_ne_cmd (h : a ≠ 0x00) : csrOf a ≠ some .cmd := fun hq =>
  h ((by decide : ∀ x ∈ csrTable, x.2 = .cmd → x.1 = 0x00) _ (mem_of_csrLookup hq) rfl)

theorem csrOf_ne_status (h : a ≠ 0x01) : csrOf a ≠ some .status := fun hq =>
  h ((by decide : ∀ x ∈ csrTable, x.2 = .status → x.1 = 0x01) _ (mem_of_csrLookup hq) rfl)

/-- The registers a write does not store to: `CMD`, whose write is a command, and the read-only ones (R28). -/
def unstoredRegisters : List Csr :=
  [.cmd, .status, .seed, .mapSizeBits, .hashSize, .passes, .mapSize, .mk, .bmData, .outData, .capBm, .capHs, .capIn,
    .capCtx, .capFeat]

theorem unstored_of_not_writable (hq : csrOf a = some q) (ha : a ∉ writableNumbers) : q ∈ unstoredRegisters :=
  ((by decide : ∀ x ∈ csrTable, x.1 ∈ writableNumbers ∨ x.2 ∈ unstoredRegisters) _ (mem_of_csrLookup hq)).resolve_left ha

theorem csrStore_of_unstored (hq : q ∈ unstoredRegisters) : csrStore s q v = s := by
  revert hq
  cases q <;> simp [unstoredRegisters, csrStore]

/-! ### Reads (R29) -/

@[simp] theorem csrRead_withHost (s : State) (rest : List HostEvent) (q : Csr) :
    csrRead { s with host := rest } q = csrRead s q := by
  cases q <;> rfl

theorem hostRead_of_idle (hb : s.status.busy = false) :
    hostRead s a = { s with rdata := ((csrOf a).map (csrRead s)).getD 0 } := by
  unfold hostRead
  split
  · next h => simp [h, csrRead]
  · simp [hb]

theorem hostRead_of_busy (hb : s.status.busy = true) (ha : a ≠ 0x01) :
    hostRead s a = { s with rdata := Config.busyRead s.freeReads, freeReads := s.freeReads + 1 } := by
  simp [hostRead, csrOf_ne_status ha, hb]

/-- A read changes nothing but the record of the value read (R29 item 4). -/
theorem hostRead_frame (s : State) (a : BitVec 8) :
    hostRead s a = { s with rdata := (hostRead s a).rdata, freeReads := (hostRead s a).freeReads } := by
  unfold hostRead
  split
  · rfl
  · split <;> rfl

theorem step_rd (s : State) (rest : List HostEvent) (a : BitVec 8) :
    step { s with host := .rd a :: rest } = .next (hostRead { s with host := rest } a) := step_of_rd rfl

/-- An idle read of a defined register records its content and takes the host event, and nothing else changes. -/
theorem step_rd_of_idle (hb : s.status.busy = false) (hq : csrOf a = some q) (hv : csrRead s q = v) :
    step { s with host := .rd a :: rest } = .next { s with host := rest, rdata := v } := by
  rw [step_rd, hostRead_of_idle (s := { s with host := rest }) hb, hq, ← hv]
  simp

theorem step_rd_reserved (hb : s.status.busy = false) (hq : csrOf a = none) :
    step { s with host := .rd a :: rest } = .next { s with host := rest, rdata := 0 } := by
  rw [step_rd, hostRead_of_idle (s := { s with host := rest }) hb, hq]
  rfl

theorem wordRead_of_absent (h : s.nCtx ≤ s.ctxsel.toNat) (f : Ctx → Word) : wordRead s f = 0 := by
  simp [wordRead, List.getElem?_eq_none h]

theorem hsData_eq (s : State) :
    csrRead s .hsData = if s.ctxsel.toNat < s.nCtx ∧ s.waddr.toNat < s.inst.hsCap
      then s.peekLane s.ctxsel.toNat s.waddr.toNat else 0 := by
  show (s.readLane _ _).getD 0 = _
  unfold State.readLane State.hasLane
  by_cases hk : s.ctxsel.toNat < s.nCtx <;> by_cases hw : s.waddr.toNat < s.inst.hsCap <;> simp [hk, hw]

/-- A byte window reads the cell `WADDR` zero-extended, and zero where there is no such cell (R29 item 3, R30). -/
theorem byteWindowRead_eq (s : State) (sp : ByteSpace) :
    byteWindowRead s sp = if s.hasByte sp s.waddr.toNat = true then (s.peekByte sp s.waddr.toNat).setWidth 64 else 0 := by
  unfold byteWindowRead State.readByte
  split <;> rfl

theorem hasByte_pfx {a : Nat} : s.hasByte .pfx a = true ↔ a < s.inst.inCap := by simp [State.hasByte]

theorem hasByte_inp {k a : Nat} : s.hasByte (.inp k) a = true ↔ k < s.nCtx ∧ a < s.inst.inCap := by
  simp [State.hasByte]

theorem hasByte_out {k a : Nat} : s.hasByte (.out k) a = true ↔ k < s.nCtx ∧ a < s.inst.hsCap := by
  simp [State.hasByte]

theorem hasLane_iff {k a : Nat} : s.hasLane k a = true ↔ k < s.nCtx ∧ a < s.inst.hsCap := by simp [State.hasLane]

theorem featureWord_eq (c : Instance) :
    featureWord c =
      BitVec.ofNat 64 ((if c.hasSplit = true then 1 else 0) + (if c.hasBatch = true then 2 else 0)) := by
  unfold featureWord
  cases c.hasSplit <;> cases c.hasBatch <;> rfl

/-- Settles O13: each register's content is `csrRead` of it, the windows by what they read. -/
theorem readsFollowTheRegisterMap : Obligations.ReadsFollowTheRegisterMap := by
  intro s rest hb config word cell
  have rd : ∀ {a : BitVec 8} {q : Csr} {v : Word}, csrOf a = some q → csrRead s q = v →
      step { s with host := .rd a :: rest } = .next { s with host := rest, rdata := v } := step_rd_of_idle hb
  have hword : ∀ f : Ctx → Word, wordRead s f = word f := by
    intro f
    show wordRead s f = match s.ctxs[s.ctxsel.toNat]? with
      | some c => f c
      | none => 0
    unfold wordRead
    cases s.ctxs[s.ctxsel.toNat]? <;> rfl
  simp only [List.forall_mem_cons]
  refine ⟨rd rfl rfl, rd rfl rfl, rd rfl rfl, rd rfl rfl, rd rfl rfl, rd rfl rfl, rd rfl rfl, rd rfl rfl, rd rfl rfl,
    rd rfl rfl, rd rfl rfl, rd rfl rfl, rd rfl rfl, rd rfl rfl, rd rfl rfl, rd rfl rfl, rd rfl rfl,
    rd rfl (hword _), rd rfl (hword _), rd rfl (hword _), rd rfl (hword _), rd rfl rfl, rd rfl (hsData_eq s),
    rd (q := .inData) rfl ?_, rd (q := .pfxData) rfl ?_, rd (q := .outData) rfl ?_,
    rd rfl rfl, rd rfl rfl, rd rfl rfl, rd rfl rfl, rd rfl (featureWord_eq _), by simp⟩
  · show byteWindowRead s _ = _
    simp only [byteWindowRead_eq, hasByte_inp, cell]
  · show byteWindowRead s _ = _
    simp only [byteWindowRead_eq, hasByte_pfx, cell]
  · show byteWindowRead s _ = _
    simp only [byteWindowRead_eq, hasByte_out, cell]

/-! ### Writes (R29, R30) -/

/-- A write of the lane window stores the lane `WADDR` of the context `CTXSEL`, and nothing where there is none. -/
theorem hsData_store_cases (s : State) (v : Word) :
    (¬(s.ctxsel.toNat < s.nCtx ∧ s.waddr.toNat < s.inst.hsCap) ∧ csrStore s .hsData v = s)
      ∨ ((s.ctxsel.toNat < s.nCtx ∧ s.waddr.toNat < s.inst.hsCap)
        ∧ csrStore s .hsData v = s.pokeLane s.ctxsel.toNat s.waddr.toNat v) := by
  rw [← hasLane_iff, csrStore, State.writeLane]
  split
  · next h => exact .inr ⟨h, rfl⟩
  · next h => exact .inl ⟨h, rfl⟩

/-- A write of a byte window stores bits 7:0 in the cell `WADDR`, and nothing where there is no such cell (R28, R30). -/
theorem byteWindowWrite_cases (s : State) (sp : ByteSpace) (v : Word) :
    (¬s.hasByte sp s.waddr.toNat = true ∧ byteWindowWrite s sp v = s)
      ∨ (s.hasByte sp s.waddr.toNat = true
        ∧ byteWindowWrite s sp v = s.pokeByte sp s.waddr.toNat (v.setWidth 8)) := by
  rw [byteWindowWrite, State.writeByte]
  split
  · next h => exact .inr ⟨h, rfl⟩
  · next h => exact .inl ⟨h, rfl⟩

/-- A write of a register other than `CMD` changes nothing but the argument and window registers, the contexts and `PFX`. -/
theorem csrStore_frame (s : State) (q : Csr) (v : Word) :
    csrStore s q v = { s with
      argSeed := (csrStore s q v).argSeed, argMapbits := (csrStore s q v).argMapbits
      argHashsize := (csrStore s q v).argHashsize, argPasses := (csrStore s q v).argPasses
      len := (csrStore s q v).len, plen := (csrStore s q v).plen, nbatch := (csrStore s q v).nbatch
      ctxsel := (csrStore s q v).ctxsel, waddr := (csrStore s q v).waddr
      ctxs := (csrStore s q v).ctxs, pfx := (csrStore s q v).pfx } := by
  cases q
  case hsData =>
    rcases hsData_store_cases s v with ⟨-, h⟩ | ⟨-, h⟩ <;> rw [h]
    rfl
  case inData =>
    rcases byteWindowWrite_cases s (.inp s.ctxsel.toNat) v with ⟨-, h⟩ | ⟨-, h⟩ <;> rw [csrStore, h]
    rfl
  case pfxData =>
    rcases byteWindowWrite_cases s .pfx v with ⟨-, h⟩ | ⟨-, h⟩ <;> rw [csrStore, h]
    rfl
  all_goals rfl

/-- A register write leaves the state or, while idle, stores to the register of that number. -/
theorem registerWrite_cases (s : State) (a : BitVec 8) (v : Word) :
    registerWrite s a v = s ∨ (s.status.busy = false ∧ ∃ q, csrOf a = some q ∧ registerWrite s a v = csrStore s q v) := by
  cases hb : s.status.busy with
  | true => exact .inl (by simp [registerWrite, hb])
  | false =>
    cases hq : csrOf a with
    | none => exact .inl (by simp [registerWrite, hq])
    | some q => exact .inr ⟨rfl, q, rfl, by simp [registerWrite, hb, hq]⟩

theorem registerWrite_of_busy (hb : s.status.busy = true) : registerWrite s a v = s := by simp [registerWrite, hb]

theorem registerWrite_of_idle (hb : s.status.busy = false) (hq : csrOf a = some q) :
    registerWrite s a v = csrStore s q v := by
  simp [registerWrite, hb, hq]

theorem registerWrite_of_not_writable (ha : a ∉ writableNumbers) : registerWrite s a v = s := by
  rcases registerWrite_cases s a v with h | ⟨-, q, hq, h⟩
  · exact h
  · rw [h, csrStore_of_unstored (unstored_of_not_writable hq ha)]

theorem step_wr (ha : a ≠ 0x00) :
    step { s with host := .wr a v :: rest } = .next (registerWrite { s with host := rest } a v) := by
  rw [step_of_wr (s := { s with host := .wr a v :: rest }) rfl, hostWrite, if_neg (csrOf_ne_cmd ha)]

/-- An idle write of a defined register other than `CMD` stores to it and takes the host event. -/
theorem step_wr_of_idle (hb : s.status.busy = false) (ha : a ≠ 0x00) (hq : csrOf a = some q)
    (ht : csrStore { s with host := rest } q v = t) : step { s with host := .wr a v :: rest } = .next t := by
  rw [step_wr ha, registerWrite_of_idle (s := { s with host := rest }) hb hq, ht]

theorem wordWrite_of_absent (h : s.nCtx ≤ s.ctxsel.toNat) (f : Ctx → Ctx) : wordWrite s f = s := by
  simp [wordWrite, List.modify_eq_self h]

theorem wordWrite_of {c : Ctx} (hc : s.ctxs[s.ctxsel.toNat]? = some c) (f : Ctx → Ctx) :
    wordWrite s f = { s with ctxs := s.ctxs.set s.ctxsel.toNat (f c) } := by
  simp [wordWrite, List.modify_eq_set_getElem?, hc]

/-! ### Writes of `CMD` while busy (30_encoding.md R92, R94) -/

theorem mem_of_tableLookup {l : List (BitVec 8 × Instr)} {x : BitVec 8} {i : Instr} (h : tableLookup l x = some i) :
    (x, i) ∈ l := by
  induction l with
  | nil => cases h
  | cons y l ih =>
    by_cases hx : x = y.1
    · obtain rfl : y.2 = i := by simpa [tableLookup, hx] using h
      simp [hx]
    · exact List.mem_cons_of_mem _ (ih (by simpa [tableLookup, hx] using h))

theorem mem_commands_of_decodeCommand {w : Word} {i : Instr} (h : decodeCommand w = .ok i) : i ∈ commands := by
  unfold decodeCommand at h
  split at h
  · cases h
  · split at h
    · next hi =>
      cases h
      exact (by decide : ∀ x ∈ opcodeTable, x.2 ∈ commands) _ (mem_of_tableLookup hi)
    · cases h

theorem exec_command_of_busy {i : Instr} (hi : i ∈ commands) (hb : s.status.busy = true) : exec i s = .next s := by
  revert i
  simp only [commands, List.forall_mem_cons]
  refine ⟨?_, ?_, ?_, ?_, ?_, by simp⟩
  · rw [exec_init, execInit, acceptance_of_busy hb]
  · rw [exec_hash, execHash, acceptance_of_busy hb]
  · rw [exec_prehash, execPrehash, acceptance_of_busy hb]
  · rw [exec_posthash, execPosthash, acceptance_of_busy hb]
  · rw [exec_hashbatch, execHashbatch, acceptance_of_busy hb]

theorem commandWrite_of_busy {w : Word} (hb : s.status.busy = true) : commandWrite s w = .next s := by
  unfold commandWrite
  split
  · next hi => exact exec_command_of_busy (mem_commands_of_decodeCommand hi) hb
  · simp [rejectCommand, hb]

theorem hostWrite_of_busy (hb : s.status.busy = true) : hostWrite s a v = .next s := by
  unfold hostWrite
  split
  · exact commandWrite_of_busy hb
  · rw [registerWrite_of_busy hb]

/-! ### The access rules (R29) -/

/-- The windows of an absent context read zero (R29 item 3). -/
theorem csrRead_of_absent_context (h : s.nCtx ≤ s.ctxsel.toNat) (ha : a ∈ contextNumbers) :
    ∃ q, csrOf a = some q ∧ csrRead s q = 0 := by
  have hk : ¬s.ctxsel.toNat < s.nCtx := Nat.not_lt.mpr h
  revert a
  simp only [contextNumbers, List.forall_mem_cons]
  refine ⟨⟨.as, rfl, wordRead_of_absent h _⟩, ⟨.s1, rfl, wordRead_of_absent h _⟩, ⟨.s2, rfl, wordRead_of_absent h _⟩,
    ⟨.s3, rfl, wordRead_of_absent h _⟩, ⟨.hsData, rfl, ?_⟩, ⟨.inData, rfl, ?_⟩, ⟨.outData, rfl, ?_⟩, by simp⟩
  · rw [hsData_eq, if_neg fun h' => hk h'.1]
  · rw [csrRead, byteWindowRead_eq, if_neg fun h' => hk (hasByte_inp.mp h').1]
  · rw [csrRead, byteWindowRead_eq, if_neg fun h' => hk (hasByte_out.mp h').1]

/-- The windows of an absent context ignore writes (R29 item 3). -/
theorem registerWrite_of_absent_context (h : s.nCtx ≤ s.ctxsel.toNat) (ha : a ∈ contextNumbers) :
    registerWrite s a v = s := by
  have hk : ¬s.ctxsel.toNat < s.nCtx := Nat.not_lt.mpr h
  cases hb : s.status.busy with
  | true => exact registerWrite_of_busy hb
  | false =>
    have store : ∀ {a : BitVec 8} {q : Csr}, csrOf a = some q → csrStore s q v = s → registerWrite s a v = s :=
      fun hq hs => (registerWrite_of_idle hb hq).trans hs
    revert a
    simp only [contextNumbers, List.forall_mem_cons]
    refine ⟨store (q := .as) rfl (wordWrite_of_absent h _), store (q := .s1) rfl (wordWrite_of_absent h _),
      store (q := .s2) rfl (wordWrite_of_absent h _), store (q := .s3) rfl (wordWrite_of_absent h _),
      store (q := .hsData) rfl ?_, store (q := .inData) rfl ?_, store (q := .outData) rfl rfl, by simp⟩
    · exact ((hsData_store_cases s v).resolve_right fun h' => hk h'.1.1).2
    · exact ((byteWindowWrite_cases s _ v).resolve_right fun h' => hk (hasByte_inp.mp h'.1).1).2

/-- Settles O11: one clause per access rule, from what a host read and a host write do. -/
theorem registerAccessRules : Obligations.RegisterAccessRules := by
  intro s a v rest
  refine ⟨fun hb ha => ?_, fun _ ha hw => ?_, fun hb => ?_, fun hb ha => ?_, rfl, fun hb hk ha => ⟨?_, ?_⟩,
    fun t ht => ?_, fun t ha ht => ?_⟩
  · rcases ha with ha | rfl
    · exact step_rd_reserved hb (csrOf_eq_none ha)
    · exact step_rd_of_idle (q := .cmd) hb rfl rfl
  · rw [step_wr ha, registerWrite_of_not_writable hw]
  · exact hostWrite_of_busy (s := { s with host := rest }) hb
  · rw [step_rd, hostRead_of_busy (s := { s with host := rest }) hb ha]
  · obtain ⟨q, hq, hv⟩ := csrRead_of_absent_context hk ha
    exact step_rd_of_idle hb hq hv
  · have h0 : a ≠ 0x00 := fun h => absurd (h ▸ ha) (by decide)
    rw [step_wr h0, registerWrite_of_absent_context (s := { s with host := rest }) hk ha]
  · rw [step_rd] at ht
    obtain rfl := Host.Outcome.next.inj ht
    exact hostRead_frame { s with host := rest } a
  · rw [step_wr ha] at ht
    obtain rfl := Host.Outcome.next.inj ht
    rcases registerWrite_cases { s with host := rest } a v with h | ⟨-, q, -, h⟩
    · rw [h]
    · rw [h]
      exact csrStore_frame { s with host := rest } q v

/-! ### Where a write stores (R28, R30) -/

/-- A change of one context that keeps its running words keeps the running words of every context. -/
theorem map_wordsOf_modify (l : List Ctx) (k : Nat) {f : Ctx → Ctx} (hf : ∀ c, wordsOf (f c) = wordsOf c) :
    (l.modify k f).map wordsOf = l.map wordsOf := by
  refine List.ext_getElem? fun n => ?_
  rw [List.getElem?_map, List.getElem?_map, List.getElem?_modify]
  cases l[n]? with
  | none => rfl
  | some c => by_cases h : k = n <;> simp [h, hf]

theorem laneWritten_pokeLane {k : Nat} (hk : k < s.nCtx) (x : Nat) (v : Word) :
    laneWritten s (s.pokeLane k x v) k x v :=
  ⟨peekLane_pokeLane hk x v, peekByte_pokeLane s k x v, map_wordsOf_modify _ _ fun _ => rfl⟩

theorem byteWritten_pokeByte_inp {k : Nat} (hk : k < s.nCtx) (x : Nat) (v : Byte) :
    byteWritten s (s.pokeByte (.inp k) x v) (.inp k) x v :=
  ⟨peekByte_pokeByte_inp hk x v, peekLane_pokeByte s _ x v, map_wordsOf_modify _ _ fun _ => rfl⟩

theorem byteWritten_pokeByte_pfx (s : State) (x : Nat) (v : Byte) : byteWritten s (s.pokeByte .pfx x v) .pfx x v :=
  ⟨peekByte_pokeByte_pfx s x v, peekLane_pokeByte s _ x v, rfl⟩

/-- What the host is still to do is no part of any memory. -/
theorem laneWritten_withHost {k x : Nat} (h : laneWritten { s with host := rest } t k x v) : laneWritten s t k x v :=
  ⟨h.1, fun sp b => (h.2.1 sp b).trans (peekByte_of_memories rfl rfl rfl rfl sp b), h.2.2⟩

theorem byteWritten_withHost {sp : ByteSpace} {x : Nat} {b : Byte} (h : byteWritten { s with host := rest } t sp x b) :
    byteWritten s t sp x b := by
  refine ⟨fun sp' x' => ?_, h.2.1, h.2.2⟩
  rw [h.1 sp' x', peekByte_of_memories (s := s) (t := { s with host := rest }) rfl rfl rfl rfl]

/-- Settles O14: an idle write is `csrStore` of its register, the windows by the cases of what they store. -/
theorem writesFollowTheRegisterMap : Obligations.WritesFollowTheRegisterMap := by
  intro s rest v hb
  have wr : ∀ {a : BitVec 8} {q : Csr} {t : State}, a ≠ 0x00 → csrOf a = some q →
      csrStore { s with host := rest } q v = t → step { s with host := .wr a v :: rest } = .next t := step_wr_of_idle hb
  have lane := hsData_store_cases { s with host := rest } v
  have inp := byteWindowWrite_cases { s with host := rest } (.inp s.ctxsel.toNat) v
  have pfx := byteWindowWrite_cases { s with host := rest } .pfx v
  rw [hasByte_inp] at inp
  rw [hasByte_pfx] at pfx
  refine ⟨?_, fun c hc => ?_, fun hk hw => ?_, fun hk hw => ?_, fun hw => ?_, fun hw => ?_, fun hw => ⟨?_, ?_⟩⟩
  · simp only [List.forall_mem_cons]
    exact ⟨wr (by decide) rfl rfl, wr (by decide) rfl rfl, wr (by decide) rfl rfl, wr (by decide) rfl rfl,
      wr (by decide) rfl rfl, wr (by decide) rfl rfl, wr (by decide) rfl rfl, wr (by decide) rfl rfl,
      wr (by decide) rfl rfl, by simp⟩
  · have word := fun f => wordWrite_of (s := { s with host := rest }) hc f
    simp only [List.forall_mem_cons]
    exact ⟨wr (by decide) rfl (word _), wr (by decide) rfl (word _), wr (by decide) rfl (word _),
      wr (by decide) rfl (word _), by simp⟩
  · obtain ⟨-, h⟩ := lane.resolve_left fun h => h.1 ⟨hk, hw⟩
    exact ⟨_, wr (by decide) rfl h, rfl, laneWritten_withHost (laneWritten_pokeLane hk _ _)⟩
  · obtain ⟨-, h⟩ := inp.resolve_left fun h => h.1 ⟨hk, hw⟩
    exact ⟨_, wr (q := .inData) (by decide) rfl h, rfl, byteWritten_withHost (byteWritten_pokeByte_inp hk _ _)⟩
  · obtain ⟨-, h⟩ := pfx.resolve_left fun h => h.1 hw
    exact ⟨_, wr (q := .pfxData) (by decide) rfl h, rfl, byteWritten_withHost (byteWritten_pokeByte_pfx _ _ _)⟩
  · exact wr (by decide) rfl (lane.resolve_right fun h => absurd h.1.2 (Nat.not_lt.mpr hw)).2
  · exact wr (q := .inData) (by decide) rfl (inp.resolve_right fun h => absurd h.1.2 (Nat.not_lt.mpr hw)).2
  · exact wr (q := .pfxData) (by decide) rfl (pfx.resolve_right fun h => absurd h.1 (Nat.not_lt.mpr hw)).2

/-! ### The capability registers (R31) -/

theorem csrStore_nCtx (s : State) (q : Csr) (v : Word) : (csrStore s q v).nCtx = s.nCtx := by
  cases q
  case as => exact List.length_modify _ _ _
  case s1 => exact List.length_modify _ _ _
  case s2 => exact List.length_modify _ _ _
  case s3 => exact List.length_modify _ _ _
  case hsData =>
    rcases hsData_store_cases s v with ⟨-, h⟩ | ⟨-, h⟩ <;> simp [h]
  case inData =>
    rcases byteWindowWrite_cases s (.inp s.ctxsel.toNat) v with ⟨-, h⟩ | ⟨-, h⟩ <;> rw [csrStore, h]
    exact pokeByte_nCtx s _ _ _
  case pfxData =>
    rcases byteWindowWrite_cases s .pfx v with ⟨-, h⟩ | ⟨-, h⟩ <;> rw [csrStore, h]
    exact pokeByte_nCtx s _ _ _
  all_goals rfl

/-- The constants of the block: those of R6 and the number of contexts. -/
def ConstantsKept (s t : State) : Prop := t.inst = s.inst ∧ t.nCtx = s.nCtx

theorem exec_constantsKept {i : Instr} (h : exec i s = .next t) : ConstantsKept s t :=
  ⟨by rw [exec_frame i h], exec_nCtx i h⟩

theorem uopStep_constantsKept (h : uopStep s = .next t) : ConstantsKept s t := by
  rcases uopStep_eq_next h with ⟨i, -, h⟩ | ⟨-, rfl⟩
  · exact exec_constantsKept h
  · exact ⟨rfl, rfl⟩

theorem rejectCommand_constantsKept (s : State) : ConstantsKept s (rejectCommand s) := by
  rcases rejectCommand_cases s with ⟨-, h⟩ | ⟨-, h⟩ <;> rw [h] <;> exact ⟨rfl, rfl⟩

theorem commandWrite_constantsKept {w : Word} (h : commandWrite s w = .next t) : ConstantsKept s t := by
  unfold commandWrite at h
  split at h
  · exact exec_constantsKept h
  · exact Host.Outcome.next.inj h ▸ rejectCommand_constantsKept s

theorem registerWrite_constantsKept (s : State) (a : BitVec 8) (v : Word) : ConstantsKept s (registerWrite s a v) := by
  rcases registerWrite_cases s a v with h | ⟨-, q, -, h⟩
  · rw [h]
    exact ⟨rfl, rfl⟩
  · rw [h]
    exact ⟨by rw [csrStore_frame], csrStore_nCtx s q v⟩

theorem step_constantsKept (h : step s = .next t) : ConstantsKept s t := by
  rcases step_cases h with ⟨_, _, h⟩ | ⟨_, -, rfl⟩ | ⟨rest, a, rfl⟩ | ⟨rest, a, v, -, rfl⟩ | ⟨_, _, h⟩ | ⟨_, rfl⟩
  · exact (uopStep_constantsKept h :)
  · exact ⟨rfl, rfl⟩
  · rw [hostRead_frame]
    exact ⟨rfl, rfl⟩
  · exact registerWrite_constantsKept { s with host := rest } a v
  · exact (commandWrite_constantsKept h :)
  · exact ⟨rfl, List.length_replicate⟩

/-- Settles O15: the reads are those of the register map, and every case of a step keeps the constants. -/
theorem capabilitiesNeverChange : Obligations.CapabilitiesNeverChange := by
  refine ⟨fun s rest hb => ?_, fun s t => step_constantsKept⟩
  simp only [List.forall_mem_cons]
  exact ⟨step_rd_of_idle hb rfl rfl, step_rd_of_idle hb rfl rfl, step_rd_of_idle hb rfl rfl, step_rd_of_idle hb rfl rfl,
    step_rd_of_idle hb rfl (featureWord_eq _), by simp⟩

end Sys2Proof.Machine

/-! The invariant `Sound` (10_state.md R21, R24 to R27, 20_memory.md R60) holds after reset and after every step. Its memory
half follows from what an operation writes (`exec_effect`), its control half from where the operation goes on to. -/

namespace Sys2Proof.Machine

open Sys2Proof

variable {s t u : State} {i k : Instr}

/-! ### Memories stay canonical and within their capacities -/

theorem memoryOk_cellPut {α : Type} {cap a : Nat} {v : α} {m : List (Nat × α)} (ha : a < cap) (h : memoryOk cap m) :
    memoryOk cap (cellPut a v m) := ⟨cellPut_wf h.1, cellPut_bounded ha h.2⟩

theorem memoryOk_clearLanes {cap count : Nat} {m : List (Nat × Word)} (hc : count ≤ cap) (h : memoryOk cap m) :
    memoryOk cap (clearLanes count m) := ⟨clearLanes_wf h.1, clearLanes_bounded hc h.2⟩

theorem memoryOk_nil {α : Type} (cap : Nat) : memoryOk cap ([] : List (Nat × α)) := ⟨List.Pairwise.nil, by simp⟩

theorem ctxOk_of_wordsWritten {x : Instance} {c d : Ctx} (hw : WordsWritten i c d) (h : ctxOk x c) : ctxOk x d := by
  rw [ctxOk, hw.hs, hw.inp, hw.out]
  exact h

theorem forall_mem_modify {l : List Ctx} {P : Ctx → Prop} {n : Nat} {f : Ctx → Ctx} (hf : ∀ c, P c → P (f c))
    (h : ∀ c ∈ l, P c) : ∀ c ∈ l.modify n f, P c := by
  intro c hc
  obtain ⟨m, hm⟩ := List.mem_iff_getElem?.mp hc
  rw [List.getElem?_modify] at hm
  obtain ⟨d, hd, rfl⟩ := Option.map_eq_some_iff.mp hm
  have hP := h d (List.mem_of_getElem? hd)
  split
  · exact hf d hP
  · exact hP

theorem memoriesOk_pokeByte {sp : ByteSpace} {a : Nat} {v : Byte} (hb : s.hasByte sp a = true) (h : memoriesOk s) :
    memoriesOk (s.pokeByte sp a v) := by
  obtain ⟨hbm, hpfx, hctx⟩ := h
  cases sp with
  | bm => exact ⟨memoryOk_cellPut (hasByte_bm.mp hb) hbm, hpfx, hctx⟩
  | pfx => exact ⟨hbm, memoryOk_cellPut (hasByte_pfx.mp hb) hpfx, hctx⟩
  | inp k =>
    exact ⟨hbm, hpfx, forall_mem_modify (fun c ⟨h1, h2, h3⟩ => ⟨h1, memoryOk_cellPut (hasByte_inp.mp hb).2 h2, h3⟩) hctx⟩
  | out k =>
    exact ⟨hbm, hpfx, forall_mem_modify (fun c ⟨h1, h2, h3⟩ => ⟨h1, h2, memoryOk_cellPut (hasByte_out.mp hb).2 h3⟩) hctx⟩

theorem memoriesOk_pokeLane {k a : Nat} {v : Word} (hl : s.hasLane k a = true) (h : memoriesOk s) :
    memoriesOk (s.pokeLane k a v) :=
  ⟨h.1, h.2.1,
    forall_mem_modify (fun _ ⟨h1, h2, h3⟩ => ⟨memoryOk_cellPut (hasLane_iff.mp hl).2 h1, h2, h3⟩) h.2.2⟩

theorem ctxOk_initialContexts (hl : s.hashSize.toNat ≤ s.inst.hsCap) (h : ∀ c ∈ s.ctxs, ctxOk s.inst c) :
    ∀ c ∈ initialContexts s, ctxOk s.inst c := by
  intro c hc
  rcases List.mem_append.mp hc with hc | hc
  · obtain ⟨d, hd, rfl⟩ := List.mem_map.mp hc
    obtain ⟨h1, h2, h3⟩ := h d (List.mem_of_mem_take hd)
    exact ⟨memoryOk_clearLanes hl h1, h2, h3⟩
  · exact h c (List.mem_of_mem_drop hc)

theorem DataEffect.memoriesOk (hu : DataEffect s i u) (h : memoriesOk s) : memoriesOk u := by
  cases hu with
  | fill v ha => exact memoriesOk_pokeByte (hasByte_bm.mpr ha) h
  | @shuf a b x y r j ha hb =>
    have h1 : Machine.memoriesOk (s.pokeByte .bm a x) := memoriesOk_pokeByte (hasByte_bm.mpr ha) h
    exact memoriesOk_pokeByte (s := s.pokeByte .bm a x) (v := y) (hasByte_bm.mpr hb) h1
  | words hc hw =>
    refine ⟨h.1, h.2.1, fun d hd => ?_⟩
    rcases List.mem_or_eq_of_mem_set hd with hd | rfl
    · exact h.2.2 d hd
    · exact ctxOk_of_wordsWritten hw (h.2.2 _ (List.mem_of_getElem? hc))
  | lane _ v hl => exact memoriesOk_pokeLane hl h
  | emit v hb => exact memoriesOk_pokeByte hb h
  | initial hn hl => exact ⟨h.1, h.2.1, ctxOk_initialContexts hl h.2.2⟩
  | _ => exact h

theorem exec_memoriesOk (i : Instr) (h : exec i s = .next t) (hm : memoriesOk s) : memoriesOk t := by
  obtain ⟨u, hu, _, _, _, _, _, _, _, _, rfl⟩ := exec_effect i h
  have hm' := hu.memoriesOk hm
  exact hm'

/-! ### STATUS (R27) -/

theorem statusOk_accepted (x : Status) : statusOk (statusAccepted x) := by simp [statusOk, statusAccepted]

theorem statusOk_raised (e : BlockError) (x : Status) : statusOk (statusRaised e x) := by
  have hp : (errcodeOf e, errinfoOf e) ∈ errorPairs := by cases e <;> decide
  simp [statusOk, statusRaised, hp]

theorem statusOk_done {x : Status} (h : statusOk x) (hb : x.busy = true) : statusOk (statusDone x) := by
  obtain ⟨hbusy, -, hcode, -⟩ := h
  obtain ⟨-, herr⟩ := hbusy hb
  simp [statusOk, statusDone, herr, hcode herr]

theorem statusOk_configured {x : Status} (h : statusOk x) (hb : x.busy = true) : statusOk (statusConfigured x) := by
  obtain ⟨hbusy, -, hcode, -⟩ := h
  obtain ⟨-, herr⟩ := hbusy hb
  simp [statusOk, statusConfigured, herr, hcode herr]

/-! ### The control half of the invariant -/

/-- `Sound` but for the constants and the memories. -/
structure ControlSound (s : State) : Prop where
  status : statusOk s.status
  config : s.status.configured = true → configOk s
  sequencer : sequencerOk s

theorem Sound.of_control (hs : Sound s) (hc : ConstantsKept s t) (hm : memoriesOk t) (ht : ControlSound t) : Sound t where
  inst := hc.1 ▸ hs.inst
  contexts := hc.2 ▸ hs.contexts
  memories := hm
  status := ht.status
  config := ht.config
  sequencer := ht.sequencer

theorem decodeUop_microAddress (hk : k ∉ commands) : decodeUop (microAddress k) = .ok k := by
  cases k <;> simp [commands] at hk ⊢

/-- What holds at a micro-operation does not depend on the micro-address. -/
theorem phaseOk_goto (i k : Instr) (s : State) : phaseOk i (s.goto k) ↔ phaseOk i s := by
  cases i <;> exact Iff.rfl

/-- What holds at a micro-operation depends on the contexts through their number alone. -/
theorem phaseOk_withCtxs {l : List Ctx} (hl : l.length = s.ctxs.length) (i : Instr) :
    phaseOk i { s with ctxs := l } ↔ phaseOk i s := by
  cases i <;>
    simp only [phaseOk, fastOk, mixOk, reduceOk, hashOk, positionOk, inputPass, buildOk, configOk, State.nCtx, hl]

/-- A micro-operation goes on to `k`, busy, where `k`'s condition holds. -/
theorem controlSound_goto (hst : statusOk s.status) (hb : s.status.busy = true)
    (hc : s.status.configured = true → configOk s) (hp : phaseOk k s) : ControlSound (s.goto k) where
  status := hst
  config := hc
  sequencer := by
    have hk : k ∉ commands := by
      rintro hk
      simp only [commands, List.mem_cons, List.not_mem_nil, or_false] at hk
      rcases hk with rfl | rfl | rfl | rfl | rfl <;> exact hp
    rw [sequencerOk, goto_upc, decodeUop_microAddress hk]
    exact ⟨hb, (phaseOk_goto k k s).mpr hp⟩

/-- No command is running. -/
theorem controlSound_of_idle (hu : decodeUop s.upc = .error .idle) (hst : statusOk s.status) (hb : s.status.busy = false)
    (hc : s.status.configured = true → configOk s) (hz : s.status.configured = false → configZero s) :
    ControlSound s where
  status := hst
  config := hc
  sequencer := by
    rw [sequencerOk, hu]
    exact ⟨hb, hz⟩

/-- A sound block that is not busy is at no micro-operation, and its configuration registers are zero or legal. -/
theorem Sound.idle_of_not_busy (hs : Sound s) (hb : s.status.busy = false) :
    decodeUop s.upc = .error .idle ∧ (s.status.configured = false → configZero s) := by
  have hq := hs.sequencer
  unfold sequencerOk at hq
  split at hq
  · exact absurd (hb.symm.trans hq.1) (by decide)
  · exact ⟨by assumption, hq.2⟩
  · exact hq.elim

/-! ### Hash commands (45_hash_sequencer.md R212) -/

/-- A hash command is running on a configured block. -/
def HashRunning (s : State) : Prop := statusOk s.status ∧ s.status.busy = true ∧ configOk s ∧ hashOk s

theorem HashRunning.of_sound (hs : Sound s) (hb : s.status.busy = true) (hh : hashOk s) : HashRunning s :=
  ⟨hs.status, hb, hs.config hh.1, hh⟩

theorem HashRunning.hashOk (r : HashRunning s) : hashOk s := r.2.2.2

theorem HashRunning.one_le_hashSize (r : HashRunning s) : 1 ≤ s.hashSize.toNat := by
  obtain ⟨-, -, ⟨-, -, -, -, -, h, -⟩, -⟩ := r
  exact h

theorem HashRunning.one_le_nb (r : HashRunning s) : 1 ≤ s.nb.toNat := by
  obtain ⟨-, -, -, -, -, h, -⟩ := r
  exact h

theorem HashRunning.withCtxs {l : List Ctx} (hl : l.length = s.ctxs.length) (r : HashRunning s) :
    HashRunning { s with ctxs := l } := by
  obtain ⟨hst, hb, hc, hh⟩ := r
  refine ⟨hst, hb, hc, ?_⟩
  simpa only [Machine.hashOk, State.nCtx, hl] using hh

theorem HashRunning.goto (r : HashRunning s) (hp : phaseOk k s) : ControlSound (s.goto k) :=
  controlSound_goto r.1 r.2.1 (fun _ => r.2.2.1) hp

theorem HashRunning.endHash (r : HashRunning s) : ControlSound (endHash s) := by
  obtain ⟨hst, hb, hc, hh⟩ := r
  exact controlSound_of_idle rfl (statusOk_done hst hb) rfl (fun _ => hc)
    fun h => absurd (hh.1.symm.trans h) (by decide)

theorem HashRunning.decideNext (r : HashRunning s) (hkc : s.kc = 0) (hph : s.ph = 1 ∨ s.ph = 2)
    (hpre : s.cmd = 3 → s.ph = 1) (hidx : s.idx.toNat = s.p.toNat % s.hashSize.toNat) : ControlSound (decideNext s) := by
  have hk : s.kc.toNat < s.nb.toNat := by
    rw [hkc]
    exact r.one_le_nb
  rcases decideNext_cases s with ⟨hp, h⟩ | ⟨-, -, -, h⟩ | ⟨-, -, hc, hn, h⟩ | ⟨-, h1, h⟩ <;> rw [h]
  · exact r.goto (k := .ldin) ⟨r.hashOk, hk, hph, hpre, hp, hidx⟩
  · exact r.endHash
  · exact HashRunning.goto (s := { s with ph := 2, p := 0, idx := 0 }) (k := .ldin) r
      ⟨r.hashOk, hk, .inr rfl, fun h => absurd h hc, hn, (Nat.zero_mod _).symm⟩
  · have hlast : (s.hashSize - 1).toNat < s.hashSize.toNat := by
      have := r.one_le_hashSize
      bv_omega
    exact HashRunning.goto (s := { s with ph := 3, i := s.hashSize - 1 }) (k := .redLoad) r
      ⟨r.hashOk, hk, fun hc => (h1 (hpre hc)).1 hc, rfl, hlast⟩

theorem HashRunning.nextContext (r : HashRunning s) (hi : inputPass s) : ControlSound (nextContext s) := by
  rcases nextContext_cases s with ⟨hlt, h⟩ | ⟨-, h⟩ <;> rw [h]
  · have hk' : (s.kc + 1).toNat < s.nb.toNat := by bv_omega
    exact HashRunning.goto (s := { s with kc := s.kc + 1 }) (k := .ldin) r ⟨r.hashOk, hk', hi⟩
  · exact HashRunning.goto (s := { s with kc := 0 }) (k := .adv) r ⟨r.hashOk, rfl, hi⟩

theorem HashRunning.afterStep (r : HashRunning s) (hm : mixOk s) : ControlSound (afterStep s) := by
  obtain ⟨hh, hk, hc, hpass⟩ := hm
  rcases afterStep_cases s with ⟨h3, h⟩ | ⟨h3, h⟩ <;> rw [h]
  · rcases hpass with ⟨h2, -⟩ | ⟨-, hi, hidx⟩
    · exact absurd (h2.symm.trans h3) (by decide)
    · exact r.goto (k := .redEmit) ⟨⟨hh, hk, hc, h3, hi⟩, hidx⟩
  · rcases hpass with ⟨h2, hpos, -⟩ | ⟨h, -⟩
    · exact r.nextContext ⟨.inr h2, fun h => absurd h hc, hpos⟩
    · exact absurd h h3

theorem HashRunning.afterEmit (r : HashRunning s) (hr : reduceOk s) : ControlSound (afterEmit s) := by
  obtain ⟨hh, hk, hc, h3, hi⟩ := hr
  rcases afterEmit_cases s with ⟨hlt, h⟩ | ⟨-, hpos, h⟩ | ⟨-, -, h⟩ <;> rw [h]
  · have hk' : (s.kc + 1).toNat < s.nb.toNat := by bv_omega
    exact HashRunning.goto (s := { s with kc := s.kc + 1 }) (k := .redLoad) r ⟨hh, hk', hc, h3, hi⟩
  · have hi' : (s.i - 1).toNat < s.hashSize.toNat := by bv_omega
    exact HashRunning.goto (s := { s with kc := 0, i := s.i - 1 }) (k := .redLoad) r ⟨hh, r.one_le_nb, hc, h3, hi'⟩
  · exact HashRunning.endHash (s := { s with kc := 0 }) r

/-- `ADV` keeps `idx = p mod HASHSIZE` (R214). -/
theorem advanced_idx {p idx h : Word} (hh : 1 ≤ h.toNat) (hp : p.toNat + 1 < 2 ^ 64)
    (hidx : idx.toNat = p.toNat % h.toNat) :
    (if idx + 1 = h then 0 else idx + 1).toNat = (p + 1).toNat % h.toNat := by
  have hlt : p.toNat % h.toNat < h.toNat := Nat.mod_lt _ hh
  have hp1 : (p + 1).toNat = p.toNat + 1 := by bv_omega
  have hi1 : (idx + 1).toNat = p.toNat % h.toNat + 1 := by bv_omega
  rw [hp1, ← Nat.mod_add_mod]
  by_cases h1 : idx + 1 = h
  · rw [if_pos h1, ← hi1, h1, Nat.mod_self]
    rfl
  · have hne : p.toNat % h.toNat + 1 ≠ h.toNat := fun e => h1 (BitVec.eq_of_toNat_eq (hi1.trans e))
    rw [if_neg h1, hi1]
    exact (Nat.mod_eq_of_lt (by omega)).symm

/-! ### Where each micro-operation goes on to -/

/-- What holds at a line holds at the next one, once a latch is no longer needed. -/
theorem phaseOk_nextLine : ∀ {i k : Instr}, nextLine i = some k → phaseOk i s → hashOk s ∧ phaseOk k s
  | .fsAs, _, rfl, h => ⟨h.1.1, h.1⟩
  | .fsS1, _, rfl, h | .stL01, _, rfl, h | .stL02, _, rfl, h | .stL03, _, rfl, h | .stL04, _, rfl, h
  | .stL06, _, rfl, h | .stL07, _, rfl, h | .stL08, _, rfl, h | .stL09, _, rfl, h | .stL10, _, rfl, h
  | .stL11, _, rfl, h | .stL12, _, rfl, h | .stL13, _, rfl, h | .stL14, _, rfl, h | .stL15, _, rfl, h
  | .stL16, _, rfl, h | .stL17, _, rfl, h | .stL18, _, rfl, h | .stL19, _, rfl, h | .stL20, _, rfl, h
  | .stL21, _, rfl, h | .stL22, _, rfl, h | .stL23, _, rfl, h | .stL24, _, rfl, h | .stL25, _, rfl, h
  | .stL26, _, rfl, h | .stL27, _, rfl, h => ⟨h.1, h⟩

/-- An operation that writes the contexts alone goes on to `k`. -/
theorem HashRunning.goto_withCtxs {l : List Ctx} (r : HashRunning s) (hl : l.length = s.ctxs.length) (hp : phaseOk k s) :
    ControlSound (({ s with ctxs := l } : State).goto k) :=
  (r.withCtxs hl).goto ((phaseOk_withCtxs hl k).mpr hp)

theorem exec_controlSound_of_nextLine (hk : nextLine i = some k) (hs : Sound s) (hb : s.status.busy = true)
    (hp : phaseOk i s) (h : exec i s = .next t) : ControlSound t := by
  obtain ⟨c, d, -, -, rfl⟩ := exec_nextLine hk h
  obtain ⟨hh, hp'⟩ := phaseOk_nextLine hk hp
  exact (HashRunning.of_sound hs hb hh).goto_withCtxs List.length_set hp'

theorem mapSizeOf_toNat {mb : Word} (h : mb.toNat ≤ 34) : (mapSizeOf mb).toNat = 2 ^ mb.toNat := by
  have hpow : 2 ^ mb.toNat < 2 ^ 64 := Nat.pow_lt_pow_right (by decide) (by omega)
  simpa [mapSizeOf, BitVec.toNat_shiftLeft, Nat.shiftLeft_eq] using hpow

theorem checkError_eq_none (h : checkError s = none) :
    1 ≤ s.cHsz.toNat ∧ 8 ≤ s.cMb.toNat ∧ s.cMb.toNat ≤ 34 ∧ s.cHsz.toNat ≤ s.inst.hsCap
      ∧ s.cMb.toNat ≤ s.inst.bmCapBits := by
  have hall := firstError_eq_none.mp h
  simp only [List.forall_mem_cons, decide_eq_false_iff_not, Bool.or_eq_false_iff] at hall
  obtain ⟨h0, ⟨h8, h34⟩, hcap, hbits, -⟩ := hall
  have h1 : s.cHsz.toNat ≠ 0 := fun e => h0 (BitVec.eq_of_toNat_eq e)
  omega

theorem configOk_latchedConfig (h : checkError s = none) : configOk (latchedConfig s) := by
  obtain ⟨h1, h8, h34, hcap, hbits⟩ := checkError_eq_none h
  exact ⟨h8, h34, hbits, mapSizeOf_toNat h34, rfl, h1, hcap⟩

theorem execCheck_controlSound (hs : Sound s) (hb : s.status.busy = true) (h : execCheck s = .next t) :
    ControlSound t := by
  rcases execCheck_eq_next h with ⟨e, rfl⟩ | ⟨hc, rfl⟩
  · exact controlSound_of_idle rfl (statusOk_raised e _) rfl (fun h => Bool.noConfusion h)
      fun _ => ⟨rfl, rfl, rfl, rfl, rfl, rfl⟩
  · have hconf := configOk_latchedConfig hc
    have hpos : (0 : Word).toNat < (latchedConfig s).mapSize.toNat := by
      obtain ⟨-, -, -, hsize, -⟩ := hconf
      rw [hsize]
      exact Nat.two_pow_pos _
    exact controlSound_goto (s := latchedConfig s) (k := .fill) hs.status hb (fun h => Bool.noConfusion h)
      ⟨⟨rfl, hconf, hpos⟩, rfl⟩

/-- The end of INIT (40_bytemap_builder.md R122). -/
theorem endInit_controlSound (hst : statusOk s.status) (hb : s.status.busy = true) (hc : configOk s) :
    ControlSound (endInit s) :=
  controlSound_of_idle rfl (statusOk_configured hst hb) rfl (fun _ => hc) fun h => Bool.noConfusion h

theorem execFill_controlSound (hs : Sound s) (hb : s.status.busy = true) (hp : phaseOk .fill s)
    (h : execFill s = .next t) : ControlSound t := by
  obtain ⟨⟨hcf, hc, hi⟩, hps⟩ := hp
  have h0 : (0 : Word).toNat < s.mapSize.toNat := Nat.zero_lt_of_lt hi
  obtain ⟨-, v, ⟨hlt, rfl⟩ | ⟨-, rfl⟩ | ⟨hne, rfl⟩⟩ := execFill_eq_next h
  · exact controlSound_goto (s := { s.pokeByte .bm s.i.toNat v with i := s.i + 1 }) (k := .fill) hs.status hb hs.config
      ⟨⟨hcf, hc, hlt⟩, hps⟩
  · exact endInit_controlSound (s := { s.pokeByte .bm s.i.toNat v with i := 0 }) hs.status hb hc
  · have hpass : s.ps.toNat < s.passes.toNat := by
      rw [hps]
      bv_omega
    exact controlSound_goto (s := { s.pokeByte .bm s.i.toNat v with i := 0 }) (k := .shuf) hs.status hb hs.config
      ⟨⟨hcf, hc, h0⟩, hpass⟩

theorem execShuf_controlSound (hs : Sound s) (hb : s.status.busy = true) (hp : phaseOk .shuf s)
    (h : execShuf s = .next t) : ControlSound t := by
  obtain ⟨⟨hcf, hc, hi⟩, hps⟩ := hp
  obtain ⟨b, x, y, r, j, -, -, rfl⟩ := execShuf_eq_next h
  let u : State := { (s.pokeByte .bm s.i.toNat x).pokeByte .bm b y with r := r, j := j }
  obtain ⟨i', ps', hi', hps', ⟨-, h⟩ | ⟨hne, h⟩⟩ := shufNext_cases u <;> rw [h]
  · exact endInit_controlSound (s := { u with i := i', ps := ps' }) hs.status hb hc
  · have hnext : i'.toNat < s.mapSize.toNat := by
      rw [hi']
      change (if s.i + 1 = s.mapSize then 0 else s.i + 1).toNat < _
      split <;> bv_omega
    have hpass : ps'.toNat < s.passes.toNat := by
      change ps' = (if s.i + 1 = s.mapSize then s.ps + 1 else s.ps) at hps'
      change ps' ≠ s.passes at hne
      split at hps' <;> bv_omega
    exact controlSound_goto (s := { u with i := i', ps := ps' }) (k := .shuf) hs.status hb hs.config
      ⟨⟨hcf, hc, hnext⟩, hpass⟩

theorem zext64_lt (b : Byte) : (zext64 b).toNat < 256 := by
  rw [zext64, BitVec.toNat_setWidth]
  exact Nat.lt_of_le_of_lt (Nat.mod_le _ _) b.isLt

theorem execLdin_controlSound (hs : Sound s) (hb : s.status.busy = true) (hp : phaseOk .ldin s)
    (h : execLdin s = .next t) : ControlSound t := by
  obtain ⟨hh, hk, hph, hpre, hpos⟩ := hp
  have r := HashRunning.of_sound hs hb hh
  obtain ⟨b, ⟨h1, rfl⟩ | ⟨h1, rfl⟩⟩ := execLdin_eq_next h
  · exact HashRunning.goto (s := { s with v2 := zext64 b }) (k := .fsB) r ⟨hh, hk, h1, hpos, zext64_lt b⟩
  · exact HashRunning.goto (s := { s with v2 := zext64 b }) (k := .stL01) r
      ⟨hh, hk, fun h => h1 (hpre h), .inl ⟨hph.resolve_left h1, hpos, zext64_lt b⟩⟩

theorem execAdv_controlSound (hs : Sound s) (hb : s.status.busy = true) (hp : phaseOk .adv s)
    (h : execAdv s = .next t) : ControlSound t := by
  obtain ⟨hh, hk, hph, hpre, hpos, hidx⟩ := hp
  have r := HashRunning.of_sound hs hb hh
  obtain rfl := Host.Outcome.next.inj h
  have hp1 : s.p.toNat + 1 < 2 ^ 64 := Nat.lt_of_le_of_lt hpos s.n.isLt
  exact HashRunning.decideNext
    (s := { s with p := s.p + 1, idx := if s.idx + 1 = s.hashSize then 0 else s.idx + 1 }) r hk hph hpre
    (advanced_idx r.one_le_hashSize hp1 hidx)

theorem execResume_controlSound (hs : Sound s) (hb : s.status.busy = true) (hp : phaseOk .resume s)
    (h : execResume s = .next t) : ControlSound t := by
  obtain ⟨hh, hc⟩ := hp
  have r := HashRunning.of_sound hs hb hh
  obtain rfl := Host.Outcome.next.inj h
  exact HashRunning.decideNext (s := { s with p := s.m, idx := s.m % s.hashSize, kc := 0, ph := 1 }) r rfl (.inl rfl)
    (fun _ => rfl) (BitVec.toNat_umod ..)

theorem execHinit_controlSound (hs : Sound s) (hb : s.status.busy = true) (hp : phaseOk .hinit s)
    (h : execHinit s = .next t) : ControlSound t := by
  have r := HashRunning.of_sound hs hb hp.1
  obtain ⟨hn, -, rfl⟩ := execHinit_eq_next h
  have r' := r.withCtxs (initialContexts_length hn)
  exact HashRunning.decideNext (s := { s with ctxs := initialContexts s, p := 0, idx := 0, kc := 0, ph := 1 }) r' rfl
    (.inl rfl) (fun _ => rfl) (Nat.zero_mod _).symm

/-- Every micro-operation of a sound block leaves a sound control. -/
theorem exec_controlSound (hs : Sound s) (hb : s.status.busy = true) (hp : phaseOk i s) (h : exec i s = .next t) :
    ControlSound t := by
  have run : hashOk s → HashRunning s := HashRunning.of_sound hs hb
  cases i
  case init => exact hp.elim
  case hash => exact hp.elim
  case prehash => exact hp.elim
  case posthash => exact hp.elim
  case hashbatch => exact hp.elim
  case check => exact execCheck_controlSound hs hb h
  case fill => exact execFill_controlSound hs hb hp h
  case shuf => exact execShuf_controlSound hs hb hp h
  case fsB =>
    obtain ⟨v, rfl⟩ := execFsB_eq_next h
    exact HashRunning.goto (s := { s with bt := tableOf s v }) (k := .fsAs) (run hp.1) ⟨hp, tableOf_lt s v⟩
  case fsHs =>
    obtain ⟨-, v, rfl⟩ := execFsHs_eq_next h
    exact (run hp.1).goto_withCtxs (k := .fsRot) (List.length_modify ..) hp
  case stL05 =>
    obtain ⟨-, v, rfl⟩ := execStL05_eq_next h
    exact (run hp.1).goto_withCtxs (k := .stL06) (List.length_modify ..) hp
  case fsRot =>
    obtain ⟨c, -, rfl⟩ := execFsRot_eq_next h
    obtain ⟨hh, hk, h1, hpos, -⟩ := hp
    have hi : phaseOk .ldin s := ⟨hh, hk, .inl h1, fun _ => h1, hpos⟩
    exact ((run hh).withCtxs List.length_set).nextContext ((phaseOk_withCtxs List.length_set .ldin).mpr hi).2.2
  case stRot =>
    obtain ⟨c, -, rfl⟩ := execStRot_eq_next h
    exact ((run hp.1).withCtxs List.length_set).afterStep ((phaseOk_withCtxs List.length_set .stRot).mpr hp)
  case redLoad =>
    obtain ⟨v, rfl⟩ := execRedLoad_eq_next h
    obtain ⟨hh, hk, hc, h3, hi⟩ := hp
    exact HashRunning.goto (s := { s with v2 := v, idx := s.i }) (k := .stL01) (run hh)
      ⟨hh, hk, hc, .inr ⟨h3, hi, rfl⟩⟩
  case redEmit =>
    obtain ⟨-, v, rfl⟩ := execRedEmit_eq_next h
    have hl := List.length_modify (fun c : Ctx => { c with out := cellPut s.i.toNat v c.out }) s.ctxs s.kc.toNat
    exact ((run hp.1.1).withCtxs hl).afterEmit ((phaseOk_withCtxs hl .redLoad).mpr hp.1)
  case hinit => exact execHinit_controlSound hs hb hp h
  case ldin => exact execLdin_controlSound hs hb hp h
  case adv => exact execAdv_controlSound hs hb hp h
  case resume => exact execResume_controlSound hs hb hp h
  all_goals exact exec_controlSound_of_nextLine rfl hs hb hp h

theorem uopStep_keeps_sound (hs : Sound s) (h : uopStep s = .next t) : Sound t := by
  rcases uopStep_eq_next h with ⟨i, hi, h⟩ | ⟨-, rfl⟩
  · have hq := hs.sequencer
    rw [sequencerOk, hi] at hq
    obtain ⟨hb, hp⟩ := hq
    exact hs.of_control (exec_constantsKept h) (exec_memoriesOk i h hs.memories) (exec_controlSound hs hb hp h)
  · exact hs

/-! ### Acceptance (30_encoding.md R92, 60_exceptions.md R253) -/

/-- An idle sound block that turns a command away keeps its configuration (R256). -/
theorem raise_accepted_sound (hs : Sound s) (hb : s.status.busy = false) (e : BlockError) :
    Sound (raise e (accepted s)) :=
  hs.of_control ⟨rfl, rfl⟩ hs.memories
    (controlSound_of_idle rfl (statusOk_raised e _) rfl hs.config (hs.idle_of_not_busy hb).2)

/-- A command keeps the invariant if, when its checks pass, it starts with a sound control. -/
theorem acceptance_sound {o : Byte} {f : Option BlockError} {latch : State → State} (hs : Sound s) (hc : ConstantsKept s t)
    (hm : memoriesOk t) (h : acceptance s o f latch k = .next t)
    (hl : f = none → ControlSound (({ latch (accepted s) with cmd := o }).goto k)) : Sound t := by
  rcases acceptance_eq_next h with ⟨-, rfl⟩ | ⟨hb, e, -, rfl⟩ | ⟨-, hf, rfl⟩
  · exact hs
  · exact raise_accepted_sound hs hb e
  · exact hs.of_control hc hm (hl hf)

/-- The state a hash command starts in: accepted, with its latches loaded (10_state.md R26). -/
def latched (s : State) (cmd : Byte) (n m nb : Word) : State := { accepted s with cmd := cmd, n := n, m := m, nb := nb }

theorem latched_controlSound {cmd : Byte} {n m nb : Word} (hs : Sound s) (hh : hashOk (latched s cmd n m nb))
    (hp : phaseOk k (latched s cmd n m nb)) : ControlSound ((latched s cmd n m nb).goto k) :=
  HashRunning.goto ⟨statusOk_accepted _, rfl, hs.config hh.1, hh⟩ hp

theorem hashOk_latched_single {cmd : Byte} {n m : Word} (hs : Sound s) (hconf : s.status.configured = true)
    (hcmd : cmd = 2 ∨ cmd = 3 ∨ cmd = 4) (hmn : m.toNat ≤ n.toNat) (hn : n.toNat ≤ s.inst.inCap) :
    hashOk (latched s cmd n m 1) := by
  have h5 : cmd ≠ 5 := by rcases hcmd with rfl | rfl | rfl <;> decide
  have hcmd' : cmd = 2 ∨ cmd = 3 ∨ cmd = 4 ∨ cmd = 5 := by tauto
  exact ⟨hconf, hcmd', le_rfl, hs.contexts.1, fun _ => rfl, hmn, fun _ => hn, fun h => absurd h h5⟩

theorem hashError_eq_none (h : hashError s = none) : s.status.configured = true ∧ s.len.toNat ≤ s.inst.inCap := by
  simpa [hashError, firstError_eq_none] using h

theorem prehashError_eq_none (h : prehashError s = none) :
    s.inst.hasSplit = true ∧ s.status.configured = true ∧ s.plen.toNat ≤ s.inst.inCap := by
  simpa [prehashError, firstError_eq_none] using h

theorem posthashError_eq_none (h : posthashError s = none) :
    s.inst.hasSplit = true ∧ s.status.configured = true ∧ s.len.toNat ≤ s.inst.inCap ∧ s.plen.toNat ≤ s.len.toNat := by
  simpa [posthashError, firstError_eq_none] using h

theorem hashbatchError_eq_none (h : hashbatchError s = none) :
    s.inst.hasBatch = true ∧ s.status.configured = true
      ∧ (s.len.toNat ≤ s.inst.inCap ∧ s.plen.toNat ≤ s.inst.inCap ∧ s.plen.toNat + s.len.toNat < 2 ^ 64)
      ∧ s.nbatch ≠ 0 ∧ s.nbatch.toNat ≤ s.nCtx := by
  simpa [hashbatchError, firstError_eq_none, and_assoc] using h

theorem hashOk_latched_batch (hh : hashbatchError s = none) :
    hashOk (latched s 0x05 (s.plen + s.len) s.plen s.nbatch) := by
  obtain ⟨-, hconf, ⟨hlen, hplen, hsum⟩, h0, hn⟩ := hashbatchError_eq_none hh
  have h1 : 1 ≤ s.nbatch.toNat := Nat.one_le_iff_ne_zero.mpr fun e => h0 (BitVec.eq_of_toNat_eq e)
  have hadd : (s.plen + s.len).toNat = s.plen.toNat + s.len.toNat := by
    rw [BitVec.toNat_add, Nat.mod_eq_of_lt hsum]
  have hfirst : s.plen.toNat ≤ (s.plen + s.len).toNat := hadd ▸ Nat.le_add_right _ _
  have hrest : (s.plen + s.len).toNat - s.plen.toNat ≤ s.inst.inCap := by omega
  exact ⟨hconf, .inr (.inr (.inr rfl)), h1, hn, fun h => absurd rfl h, hfirst, fun h => absurd rfl h,
    fun _ => ⟨hplen, hrest⟩⟩

theorem exec_command_keeps_sound (hi : i ∈ commands) (hs : Sound s) (h : exec i s = .next t) : Sound t := by
  have hc := exec_constantsKept h
  have hm := exec_memoriesOk i h hs.memories
  simp only [commands, List.mem_cons, List.not_mem_nil, or_false] at hi
  rcases hi with rfl | rfl | rfl | rfl | rfl
  case inl =>
    rw [exec_init, execInit] at h
    refine acceptance_sound hs hc hm h fun _ => ?_
    exact controlSound_goto (k := .check) (statusOk_accepted s.status) rfl (fun h => Bool.noConfusion h) rfl
  case inr.inl =>
    rw [exec_hash, execHash] at h
    refine acceptance_sound hs hc hm h fun hf => ?_
    obtain ⟨hconf, hlen⟩ := hashError_eq_none hf
    have hh := hashOk_latched_single (cmd := 0x02) (m := 0) hs hconf (.inl rfl) (Nat.zero_le _) hlen
    exact (latched_controlSound (k := .hinit) hs hh ⟨hh, (by decide : (0x02 : Byte) ≠ 4)⟩ :)
  case inr.inr.inl =>
    rw [exec_prehash, execPrehash] at h
    refine acceptance_sound hs hc hm h fun hf => ?_
    obtain ⟨-, hconf, hlen⟩ := prehashError_eq_none hf
    have hh := hashOk_latched_single (cmd := 0x03) (m := 0) hs hconf (.inr (.inl rfl)) (Nat.zero_le _) hlen
    exact (latched_controlSound (k := .hinit) hs hh ⟨hh, (by decide : (0x03 : Byte) ≠ 4)⟩ :)
  case inr.inr.inr.inl =>
    rw [exec_posthash, execPosthash] at h
    refine acceptance_sound hs hc hm h fun hf => ?_
    obtain ⟨-, hconf, hlen, hplen⟩ := posthashError_eq_none hf
    have hh := hashOk_latched_single (cmd := 0x04) hs hconf (.inr (.inr rfl)) hplen hlen
    exact (latched_controlSound (k := .resume) hs hh ⟨hh, rfl⟩ :)
  case inr.inr.inr.inr =>
    rw [exec_hashbatch, execHashbatch] at h
    refine acceptance_sound hs hc hm h fun hf => ?_
    have hh := hashOk_latched_batch hf
    exact (latched_controlSound (k := .hinit) hs hh ⟨hh, (by decide : (0x05 : Byte) ≠ 4)⟩ :)

theorem commandWrite_keeps_sound {w : Word} (hs : Sound s) (h : commandWrite s w = .next t) : Sound t := by
  unfold commandWrite at h
  split at h
  · next hi => exact exec_command_keeps_sound (mem_commands_of_decodeCommand hi) hs h
  · obtain rfl := Host.Outcome.next.inj h
    rcases rejectCommand_cases s with ⟨-, h⟩ | ⟨hb, h⟩ <;> rw [h]
    · exact hs
    · exact raise_accepted_sound hs hb .badOpcode

/-! ### The host's side of a slot -/

/-- The fields of the model are no part of the invariant. -/
theorem Sound.withHost (hs : Sound s) (host : List HostEvent) (rdata : Word) (freeReads epoch : Nat) :
    Sound { s with host := host, rdata := rdata, freeReads := freeReads, epoch := epoch } where
  inst := hs.inst
  contexts := hs.contexts
  memories := hs.memories
  status := hs.status
  config := hs.config
  sequencer := hs.sequencer

theorem hostRead_keeps_sound (hs : Sound s) (a : BitVec 8) : Sound (hostRead s a) := by
  rw [hostRead_frame]
  exact hs.withHost s.host _ _ s.epoch

theorem memoriesOk_wordWrite {f : Ctx → Ctx} (hf : ∀ c, (f c).hs = c.hs ∧ (f c).inp = c.inp ∧ (f c).out = c.out)
    (h : memoriesOk s) : memoriesOk (wordWrite s f) := by
  refine ⟨h.1, h.2.1, forall_mem_modify (fun c hc => ?_) h.2.2⟩
  obtain ⟨h1, h2, h3⟩ := hf c
  rw [ctxOk, h1, h2, h3]
  exact hc

theorem memoriesOk_byteWindowWrite {sp : ByteSpace} {v : Word} (h : memoriesOk s) : memoriesOk (byteWindowWrite s sp v) := by
  rcases byteWindowWrite_cases s sp v with ⟨-, e⟩ | ⟨hb, e⟩ <;> rw [e]
  · exact h
  · exact memoriesOk_pokeByte hb h

theorem memoriesOk_csrStore (q : Csr) (v : Word) (h : memoriesOk s) : memoriesOk (csrStore s q v) := by
  cases q
  case as => exact memoriesOk_wordWrite (fun _ => ⟨rfl, rfl, rfl⟩) h
  case s1 => exact memoriesOk_wordWrite (fun _ => ⟨rfl, rfl, rfl⟩) h
  case s2 => exact memoriesOk_wordWrite (fun _ => ⟨rfl, rfl, rfl⟩) h
  case s3 => exact memoriesOk_wordWrite (fun _ => ⟨rfl, rfl, rfl⟩) h
  case hsData =>
    rcases hsData_store_cases s v with ⟨-, e⟩ | ⟨hl, e⟩ <;> rw [e]
    · exact h
    · exact memoriesOk_pokeLane (hasLane_iff.mpr hl) h
  case inData => exact memoriesOk_byteWindowWrite h
  case pfxData => exact memoriesOk_byteWindowWrite h
  all_goals exact h

theorem csrStore_keeps_sound (hs : Sound s) (hb : s.status.busy = false) (q : Csr) (v : Word) : Sound (csrStore s q v) := by
  obtain ⟨hu, hz⟩ := hs.idle_of_not_busy hb
  refine hs.of_control ⟨by rw [csrStore_frame], csrStore_nCtx s q v⟩ (memoriesOk_csrStore q v hs.memories) ?_
  rw [csrStore_frame]
  exact controlSound_of_idle hu hs.status hb hs.config hz

theorem registerWrite_keeps_sound (hs : Sound s) (a : BitVec 8) (v : Word) : Sound (registerWrite s a v) := by
  rcases registerWrite_cases s a v with h | ⟨hb, q, -, h⟩ <;> rw [h]
  · exact hs
  · exact csrStore_keeps_sound hs hb q v

/-! ### Reset (R35, 70_reset_and_hazards.md R280) -/

theorem fresh_sound {c : Instance} {count : Nat} (hc : c.wf = true) (hn : 1 ≤ count ∧ count < 2 ^ 64) :
    Sound (State.fresh c count) where
  inst := hc
  contexts := by
    have hl : (State.fresh c count).nCtx = count := List.length_replicate
    rwa [hl]
  memories := by
    refine ⟨memoryOk_nil _, memoryOk_nil _, fun x hx => ?_⟩
    obtain rfl : x = Ctx.blank := List.eq_of_mem_replicate hx
    exact ⟨memoryOk_nil _, memoryOk_nil _, memoryOk_nil _⟩
  status := by simp [State.fresh, statusOk, Status.idle]
  config := fun h => Bool.noConfusion h
  sequencer := ⟨rfl, fun _ => ⟨rfl, rfl, rfl, rfl, rfl, rfl⟩⟩

theorem resetEvent_keeps_sound (hs : Sound s) : Sound (resetEvent s) :=
  (fresh_sound hs.inst hs.contexts).withHost s.host s.rdata s.freeReads (s.epoch + 1)

/-- Settles O42: the state after reset is a fresh one; it is at no micro-operation and not configured. -/
theorem resetStateIsSound : Obligations.ResetStateIsSound := by
  refine ⟨fresh_sound (by decide) (by decide), fun h => ?_, fun h => ?_, fun h => ?_⟩
  · exact absurd h (by decide)
  · exact absurd h (by decide)
  · exact absurd h (by decide)

/-- Settles O43, by the cases of a step: a micro-operation or nothing, a read, a register write, a command, a reset. -/
theorem stepKeepsTheInvariant : Obligations.StepKeepsTheInvariant := by
  intro s t hs h
  have hs' : ∀ host rdata, Sound { s with host := host, rdata := rdata } := fun host rdata =>
    hs.withHost host rdata s.freeReads s.epoch
  rcases step_cases h with ⟨host, rdata, h⟩ | ⟨rest, -, rfl⟩ | ⟨rest, a, rfl⟩ | ⟨rest, a, v, -, rfl⟩ | ⟨rest, w, h⟩
    | ⟨rest, rfl⟩
  · exact uopStep_keeps_sound (hs' host rdata) h
  · exact hs' rest _
  · exact hostRead_keeps_sound (hs' rest s.rdata) a
  · exact registerWrite_keeps_sound (hs' rest s.rdata) a v
  · exact commandWrite_keeps_sound (hs' rest s.rdata) h
  · exact resetEvent_keeps_sound (hs' rest s.rdata)

end Sys2Proof.Machine

/-! Where an operation stores (20_memory.md R64, R66): every cell and lane other than those `storesByte` and `storesLane` name
reads as before. -/

namespace Sys2Proof.Machine

open Sys2Proof

variable {s t u : State} {i k : Instr}

/-- Every byte and every lane of `t` reads as in `s`. -/
def ReadsAlike (s t : State) : Prop :=
  (∀ sp a, t.peekByte sp a = s.peekByte sp a) ∧ ∀ k a, t.peekLane k a = s.peekLane k a

/-- `t` holds the memories of `s`. -/
def MemoriesKept (s t : State) : Prop := t.bm = s.bm ∧ t.pfx = s.pfx ∧ t.ctxs = s.ctxs ∧ t.epoch = s.epoch

theorem MemoriesKept.readsAlike (h : MemoriesKept s t) : ReadsAlike s t := by
  obtain ⟨hb, hp, hc, he⟩ := h
  exact ⟨peekByte_of_memories hb hp hc he, peekLane_of_memories hc he⟩

theorem ControlMove.readsAlike (h : ControlMove s t) : ReadsAlike s t := by
  obtain ⟨_, _, _, _, _, _, _, _, rfl⟩ := h
  exact MemoriesKept.readsAlike ⟨rfl, rfl, rfl, rfl⟩

/-- A line or a rotation writes running words and no memory. -/
theorem WordsWritten.readsAlike_setCtx {c d : Ctx} (hc : s.ctxs[s.kc.toNat]? = some c) (hw : WordsWritten i c d) :
    ReadsAlike s (s.setCtx d) := ⟨peekByte_setCtx hc hw.inp hw.out, peekLane_setCtx hc hw.hs⟩

/-- From `s` to `t` operation `i` has stored to no cell but those it stores to when it runs in `s`. -/
structure StoresOnly (i : Instr) (s t : State) : Prop where
  byte : ∀ sp a, ¬storesByte i s sp a → t.peekByte sp a = s.peekByte sp a
  lane : ∀ k a, ¬storesLane i s k a → t.peekLane k a = s.peekLane k a

theorem ReadsAlike.storesOnly (h : ReadsAlike s t) : StoresOnly i s t := ⟨fun sp a _ => h.1 sp a, fun k a _ => h.2 k a⟩

theorem StoresOnly.of_memoriesKept (h : MemoriesKept s t) : StoresOnly i s t := h.readsAlike.storesOnly

theorem StoresOnly.trans (h : StoresOnly i s u) (h' : ReadsAlike u t) : StoresOnly i s t :=
  ⟨fun sp a hn => (h'.1 sp a).trans (h.byte sp a hn), fun k a hn => (h'.2 k a).trans (h.lane k a hn)⟩

theorem StoresOnly.move (h : StoresOnly i s u) (hm : ControlMove u t) : StoresOnly i s t := h.trans hm.readsAlike

theorem ControlMove.storesOnly (h : ControlMove s t) : StoresOnly i s t := h.readsAlike.storesOnly

/-! ### The operations that store -/

theorem storesOnly_fill (s : State) (v : Byte) : StoresOnly .fill s (s.pokeByte .bm s.i.toNat v) where
  byte sp a hn := by
    rw [peekByte_pokeByte_bm, if_neg]
    rintro ⟨rfl, rfl⟩
    exact hn (.inl ⟨rfl, rfl, rfl⟩)
  lane k a _ := peekLane_pokeByte s .bm _ v k a

theorem storesOnly_emit (hk : s.kc.toNat < s.nCtx) (v : Byte) :
    StoresOnly .redEmit s (s.pokeByte (.out s.kc.toNat) s.i.toNat v) where
  byte sp a hn := by
    rw [peekByte_pokeByte_out hk, if_neg]
    rintro ⟨rfl, rfl⟩
    exact hn (.inr (.inr ⟨rfl, rfl, rfl⟩))
  lane k a _ := peekLane_pokeByte s _ _ v k a

theorem storesOnly_lane (hi : i = .fsHs ∨ i = .stL05) (hl : s.hasLane s.kc.toNat s.idx.toNat = true) (v : Word) :
    StoresOnly i s (s.pokeLane s.kc.toNat s.idx.toNat v) where
  byte sp a _ := peekByte_pokeLane s _ _ v sp a
  lane k a hn := by
    rw [peekLane_pokeLane (hasLane_iff.mp hl).1, if_neg]
    exact fun h => hn (.inr ⟨hi, h⟩)

/-- The two cells that SHUF exchanges are those it stores to (40_bytemap_builder.md R127). -/
theorem storesOnly_exchange (s : State) {j : Nat}
    (hj : j = (shufF s.inst.shuf s.r s.i s.ps (fun w => s.peekByte .bm w.toNat) s.mask).2.toNat) :
    StoresOnly .shuf s
      ((s.pokeByte .bm s.i.toNat (s.peekByte .bm j)).pokeByte .bm j (s.peekByte .bm s.i.toNat)) where
  byte sp a hn := by
    rw [peekByte_exchanged, if_neg, if_neg]
    · exact fun ⟨hsp, ha⟩ => hn (.inr (.inl ⟨rfl, hsp, .inr (ha.trans hj)⟩))
    · exact fun ⟨hsp, ha⟩ => hn (.inr (.inl ⟨rfl, hsp, .inl ha⟩))
  lane k a _ := by rw [peekLane_pokeByte, peekLane_pokeByte]

theorem execShuf_storesOnly (h : execShuf s = .next t) : StoresOnly .shuf s t := by
  unfold execShuf at h
  split at h
  · obtain ⟨-, -, h⟩ := exchange_eq_next h
    obtain rfl := Host.Outcome.next.inj h
    refine StoresOnly.move ?_ (.shufNext _)
    exact (storesOnly_exchange s rfl).trans (MemoriesKept.readsAlike ⟨rfl, rfl, rfl, rfl⟩)
  · cases h

/-- What context `k` holds after HINIT (45_hash_sequencer.md R211). -/
theorem initialContexts_getElem?_eq (hn : s.nb.toNat ≤ s.nCtx) (k : Nat) :
    (initialContexts s)[k]? =
      (s.ctxs[k]?).map fun c => if k < s.nb.toNat then initialContext s.seed s.hashSize.toNat c else c := by
  by_cases hk : k < s.nb.toNat
  · have hlen : k < ((s.ctxs.take s.nb.toNat).map (initialContext s.seed s.hashSize.toNat)).length := by
      simpa using ⟨hk, Nat.lt_of_lt_of_le hk hn⟩
    rw [initialContexts, List.getElem?_append_left hlen, List.getElem?_map, List.getElem?_take_of_lt hk]
    simp [hk]
  · rw [initialContexts_getElem? hn (Nat.le_of_not_lt hk)]
    simp [hk]

/-- Nothing that HINIT's work on a context leaves alone is changed in any context. -/
theorem map_initialContexts {α : Type} {f : Ctx → α} (hn : s.nb.toNat ≤ s.nCtx)
    (hf : ∀ c, f (initialContext s.seed s.hashSize.toNat c) = f c) (k : Nat) :
    (initialContexts s)[k]?.map f = (s.ctxs[k]?).map f := by
  rw [initialContexts_getElem?_eq hn]
  cases s.ctxs[k]? with
  | none => rfl
  | some c => by_cases hk : k < s.nb.toNat <;> simp [hk, hf]

theorem storesOnly_hinit (hn : s.nb.toNat ≤ s.nCtx) : StoresOnly .hinit s { s with ctxs := initialContexts s } where
  byte sp a _ := by
    refine peekByte_congr ?_ rfl
    cases sp with
    | bm => rfl
    | pfx => rfl
    | inp k => simp only [State.byteCells, map_initialContexts hn (f := Ctx.inp) fun _ => rfl]
    | out k => simp only [State.byteCells, map_initialContexts hn (f := Ctx.out) fun _ => rfl]
  lane k a hns := by
    have hout : k < s.nb.toNat → ¬a < s.hashSize.toNat := fun hk ha => hns (.inl ⟨rfl, hk, ha⟩)
    simp only [State.peekLane, initialContexts_getElem?_eq hn]
    cases s.ctxs[k]? with
    | none => rfl
    | some c =>
      by_cases hk : k < s.nb.toNat
      · simp [hk, initialContext, cellGet_clearLanes, hout hk]
      · simp [hk]

/-! ### Every operation -/

/-- A command is its acceptance, and its latches are no part of a memory. -/
theorem exec_command_eq (hi : i ∈ commands) (s : State) :
    ∃ o f latch k, exec i s = acceptance s o f latch k ∧ ∀ u, MemoriesKept u (latch u) := by
  simp only [commands, List.mem_cons, List.not_mem_nil, or_false] at hi
  rcases hi with rfl | rfl | rfl | rfl | rfl
  · exact ⟨_, _, _, _, execInit.eq_def s, fun _ => ⟨rfl, rfl, rfl, rfl⟩⟩
  · exact ⟨_, _, _, _, execHash.eq_def s, fun _ => ⟨rfl, rfl, rfl, rfl⟩⟩
  · exact ⟨_, _, _, _, execPrehash.eq_def s, fun _ => ⟨rfl, rfl, rfl, rfl⟩⟩
  · exact ⟨_, _, _, _, execPosthash.eq_def s, fun _ => ⟨rfl, rfl, rfl, rfl⟩⟩
  · exact ⟨_, _, _, _, execHashbatch.eq_def s, fun _ => ⟨rfl, rfl, rfl, rfl⟩⟩

/-- A command stores to no memory. -/
theorem exec_command_memoriesKept (hi : i ∈ commands) (h : exec i s = .next t) : MemoriesKept s t := by
  obtain ⟨o, f, latch, k, he, hl⟩ := exec_command_eq hi s
  rw [he] at h
  rcases acceptance_eq_next h with ⟨-, rfl⟩ | ⟨-, e, -, rfl⟩ | ⟨-, -, rfl⟩
  · exact ⟨rfl, rfl, rfl, rfl⟩
  · exact ⟨rfl, rfl, rfl, rfl⟩
  · exact hl (accepted s)

theorem LineStep.readsAlike (h : LineStep i k s t) : ReadsAlike s t := by
  obtain ⟨c, d, hc, hw, rfl⟩ := h
  exact hw.readsAlike_setCtx hc

/-- The rotations write running words and no memory. -/
theorem storesOnly_rotate {c : Ctx} (hc : s.ctxs[s.kc.toNat]? = some c) : StoresOnly i s (s.setCtx (rotate c)) :=
  ReadsAlike.storesOnly ⟨peekByte_setCtx hc rfl rfl, peekLane_setCtx hc rfl⟩

theorem exec_storesOnly (i : Instr) (h : exec i s = .next t) : StoresOnly i s t := by
  cases i
  case init => exact .of_memoriesKept (exec_command_memoriesKept (by decide) h)
  case hash => exact .of_memoriesKept (exec_command_memoriesKept (by decide) h)
  case prehash => exact .of_memoriesKept (exec_command_memoriesKept (by decide) h)
  case posthash => exact .of_memoriesKept (exec_command_memoriesKept (by decide) h)
  case hashbatch => exact .of_memoriesKept (exec_command_memoriesKept (by decide) h)
  case check =>
    rcases execCheck_eq_next h with ⟨e, rfl⟩ | ⟨-, rfl⟩ <;>
      exact .of_memoriesKept ⟨rfl, rfl, rfl, rfl⟩
  case fill =>
    obtain ⟨-, v, ⟨-, rfl⟩ | ⟨-, rfl⟩ | ⟨-, rfl⟩⟩ := execFill_eq_next h <;>
      exact (storesOnly_fill s v).move (.of_eq rfl)
  case shuf => exact execShuf_storesOnly h
  case fsB =>
    obtain ⟨v, rfl⟩ := execFsB_eq_next h
    exact .of_memoriesKept ⟨rfl, rfl, rfl, rfl⟩
  case fsHs =>
    obtain ⟨hl, v, rfl⟩ := execFsHs_eq_next h
    exact (storesOnly_lane (.inl rfl) hl v).move (.goto _ _)
  case stL05 =>
    obtain ⟨hl, v, rfl⟩ := execStL05_eq_next h
    exact (storesOnly_lane (.inr rfl) hl v).move (.goto _ _)
  case fsRot =>
    obtain ⟨c, hc, rfl⟩ := execFsRot_eq_next h
    exact (storesOnly_rotate hc).move (.nextContext _)
  case stRot =>
    obtain ⟨c, hc, rfl⟩ := execStRot_eq_next h
    exact (storesOnly_rotate hc).move (.afterStep _)
  case redLoad =>
    obtain ⟨v, rfl⟩ := execRedLoad_eq_next h
    exact .of_memoriesKept ⟨rfl, rfl, rfl, rfl⟩
  case redEmit =>
    obtain ⟨hb, v, rfl⟩ := execRedEmit_eq_next h
    exact (storesOnly_emit (hasByte_out.mp hb).1 v).move (.afterEmit _)
  case hinit =>
    obtain ⟨hn, -, rfl⟩ := execHinit_eq_next h
    exact (storesOnly_hinit hn).move (.to_decideNext (.of_eq rfl))
  case ldin =>
    obtain ⟨b, ⟨-, rfl⟩ | ⟨-, rfl⟩⟩ := execLdin_eq_next h <;>
      exact .of_memoriesKept ⟨rfl, rfl, rfl, rfl⟩
  case adv =>
    obtain rfl := Host.Outcome.next.inj h
    exact (ControlMove.to_decideNext (.of_eq rfl)).storesOnly
  case resume =>
    obtain rfl := Host.Outcome.next.inj h
    exact (ControlMove.to_decideNext (.of_eq rfl)).storesOnly
  all_goals exact (exec_nextLine rfl h).readsAlike.storesOnly

/-- Settles O39, by the cases of an operation: `StoresOnly` names the two clauses of the statement. -/
theorem operationsStoreOnlyTheirCells : Obligations.OperationsStoreOnlyTheirCells := by
  intro i s t h
  have hm := exec_storesOnly i h
  exact ⟨hm.byte, hm.lane⟩

end Sys2Proof.Machine

/-! Progress: a sound state always answers a next state (20_memory.md R60, 60_exceptions.md R255). An operation stops only at a
context or a cell that does not exist (log 11), so it is enough that every address the sequencer holds is in range. -/

namespace Sys2Proof.Machine

open Sys2Proof

variable {s : State} {i k : Instr} {r : Result}

/-! ### Outcomes that answer a next state -/

/-- The outcome is a next state: neither a fault nor a refusal. -/
def Answers (r : Result) : Prop := ∃ t, r = .next t

theorem answers_next (s : State) : Answers (.next s) := ⟨s, rfl⟩

theorem Answers.of_eq {t : State} (h : r = .next t) : Answers r := ⟨t, h⟩

theorem answers_orFault {α : Type} {x : Option α} {a : α} {f : α → Result} (hx : x = some a) (hf : Answers (f a)) :
    Answers (orFault x f) := by
  subst hx
  exact hf

theorem answers_withCtx {f : Ctx → Result} (hk : s.kc.toNat < s.nCtx) (hf : ∀ c, Answers (f c)) : Answers (withCtx s f) := by
  rw [withCtx_of (List.getElem?_eq_getElem hk)]
  exact hf _

theorem answers_storeLane {v : Word} (hl : s.hasLane s.kc.toNat s.idx.toNat = true) : Answers (storeLane s v k) :=
  .of_eq (storeLane_of hl v k)

/-! ### The addresses of a running command are in range (20_memory.md R60) -/

/-- A legal table is no larger than the ByteMap RAM (10_state.md R21). -/
theorem configOk.mapSize_le (h : configOk s) : s.mapSize.toNat ≤ 2 ^ s.inst.bmCapBits := by
  obtain ⟨-, -, hbits, hsize, -⟩ := h
  rw [hsize]
  exact Nat.pow_le_pow_right (by decide) hbits

/-- Every probe address is a cell of the ByteMap (R61). -/
theorem configOk.mask_lt (h : configOk s) : s.mask.toNat < 2 ^ s.inst.bmCapBits := by
  have hle := h.mapSize_le
  obtain ⟨-, -, -, hsize, hmask, -⟩ := h
  have hpos : 0 < s.mapSize.toNat := hsize ▸ Nat.two_pow_pos _
  have hlt : s.mask.toNat < s.mapSize.toNat := by
    rw [hmask]
    bv_omega
  exact Nat.lt_of_lt_of_le hlt hle

theorem HashRunning.mask_lt (h : HashRunning s) : s.mask.toNat < 2 ^ s.inst.bmCapBits := by
  obtain ⟨-, -, hc, -⟩ := h
  exact hc.mask_lt

theorem HashRunning.hashSize_le (h : HashRunning s) : s.hashSize.toNat ≤ s.inst.hsCap := by
  obtain ⟨-, -, ⟨-, -, -, -, -, -, hcap⟩, -⟩ := h
  exact hcap

theorem HashRunning.nb_le (h : HashRunning s) : s.nb.toNat ≤ s.nCtx := by
  obtain ⟨-, -, -, hn, -⟩ := h.hashOk
  exact hn

theorem HashRunning.kc_lt (h : HashRunning s) (hk : s.kc.toNat < s.nb.toNat) : s.kc.toNat < s.nCtx :=
  Nat.lt_of_lt_of_le hk h.nb_le

/-- The lanes in use exist in every context that runs. -/
theorem HashRunning.hasLane (h : HashRunning s) (hk : s.kc.toNat < s.nb.toNat) {a : Nat} (ha : a < s.hashSize.toNat) :
    s.hasLane s.kc.toNat a = true :=
  hasLane_iff.mpr ⟨h.kc_lt hk, Nat.lt_of_lt_of_le ha h.hashSize_le⟩

theorem HashRunning.idx_lt (h : HashRunning s) (hp : positionOk s) : s.idx.toNat < s.hashSize.toNat := by
  rw [hp.2]
  exact Nat.mod_lt _ h.one_le_hashSize

/-- What FastStep and Step need: the context `kc`, the lane `idx` and the table are there. -/
structure LineReady (s : State) : Prop where
  context : s.kc.toNat < s.nCtx
  lane : s.hasLane s.kc.toNat s.idx.toNat = true
  table : s.mask.toNat < 2 ^ s.inst.bmCapBits

theorem HashRunning.lineReady (h : HashRunning s) (hk : s.kc.toNat < s.nb.toNat) (hi : s.idx.toNat < s.hashSize.toNat) :
    LineReady s := ⟨h.kc_lt hk, h.hasLane hk hi, h.mask_lt⟩

theorem lineReady_of_fastOk (hs : Sound s) (hb : s.status.busy = true) (hf : fastOk s) : LineReady s := by
  obtain ⟨hh, hk, -, hpos, -⟩ := hf
  have h := HashRunning.of_sound hs hb hh
  exact h.lineReady hk (h.idx_lt hpos)

theorem lineReady_of_mixOk (hs : Sound s) (hb : s.status.busy = true) (hm : mixOk s) : LineReady s := by
  obtain ⟨hh, hk, -, hpass⟩ := hm
  have h := HashRunning.of_sound hs hb hh
  have hi : s.idx.toNat < s.hashSize.toNat := by
    rcases hpass with ⟨-, hpos, -⟩ | ⟨-, hlt, hidx⟩
    · exact h.idx_lt hpos
    · exact hidx ▸ hlt
  exact h.lineReady hk hi

/-! ### FastStep and Step -/

theorem LineReady.answers_wordLine (h : LineReady s) {w : Ctx → Ctx} : Answers (wordLine s w k) :=
  .of_eq (wordLine_of (List.getElem?_eq_getElem h.context) w k)

theorem LineReady.answers_probeLine (h : LineReady s) {x : Ctx → Word} {w : Ctx → Word → Ctx} :
    Answers (probeLine s x w k) := .of_eq (probeLine_of (List.getElem?_eq_getElem h.context) h.table x w k)

theorem LineReady.answers_laneLine (h : LineReady s) {w : Ctx → Word → Ctx} : Answers (laneLine s w k) :=
  .of_eq (laneLine_of (List.getElem?_eq_getElem h.context) h.lane w k)

theorem LineReady.answers_laneProbeLine (h : LineReady s) {x : Ctx → Word → Word} {w : Ctx → Word → Word → Ctx} :
    Answers (laneProbeLine s x w k) :=
  .of_eq (laneProbeLine_of (List.getElem?_eq_getElem h.context) h.lane h.table x w k)

/-- The lines that write one running word, by their shape. -/
theorem LineReady.exec_answers (h : LineReady s) : ∀ {i k : Instr}, nextLine i = some k → Answers (exec i s)
  | .fsAs, _, _ => h.answers_wordLine
  | .fsS1, _, _ | .stL26, _, _ => h.answers_laneLine
  | .stL27, _, _ => h.answers_laneProbeLine
  | .stL01, _, _ | .stL02, _, _ | .stL03, _, _ | .stL04, _, _ | .stL06, _, _ | .stL07, _, _ | .stL08, _, _
  | .stL09, _, _ | .stL10, _, _ | .stL11, _, _ | .stL12, _, _ | .stL13, _, _ | .stL14, _, _ | .stL15, _, _
  | .stL16, _, _ | .stL17, _, _ | .stL18, _, _ | .stL19, _, _ | .stL20, _, _ | .stL21, _, _ | .stL22, _, _
  | .stL23, _, _ | .stL24, _, _ | .stL25, _, _ => h.answers_probeLine

/-- At such a line a FastStep or a Step is running. -/
theorem fastOk_or_mixOk_of_nextLine : ∀ {i k : Instr}, nextLine i = some k → phaseOk i s → fastOk s ∨ mixOk s
  | .fsAs, _, _, h => .inl h.1
  | .fsS1, _, _, h => .inl h
  | .stL01, _, _, h | .stL02, _, _, h | .stL03, _, _, h | .stL04, _, _, h | .stL06, _, _, h | .stL07, _, _, h
  | .stL08, _, _, h | .stL09, _, _, h | .stL10, _, _, h | .stL11, _, _, h | .stL12, _, _, h | .stL13, _, _, h
  | .stL14, _, _, h | .stL15, _, _, h | .stL16, _, _, h | .stL17, _, _, h | .stL18, _, _, h | .stL19, _, _, h
  | .stL20, _, _, h | .stL21, _, _, h | .stL22, _, _, h | .stL23, _, _, h | .stL24, _, _, h | .stL25, _, _, h
  | .stL26, _, _, h | .stL27, _, _, h => .inr h

theorem exec_answers_of_nextLine (hk : nextLine i = some k) (hs : Sound s) (hb : s.status.busy = true) (hp : phaseOk i s) :
    Answers (exec i s) := by
  rcases fastOk_or_mixOk_of_nextLine hk hp with hf | hm
  · exact (lineReady_of_fastOk hs hb hf).exec_answers hk
  · exact (lineReady_of_mixOk hs hb hm).exec_answers hk

theorem LineReady.execFsB_answers (h : LineReady s) : Answers (execFsB s) :=
  answers_withCtx h.context fun _ => answers_orFault (probe_of h.table _) (answers_next _)

theorem LineReady.execFsHs_answers (h : LineReady s) : Answers (execFsHs s) :=
  answers_withCtx h.context fun _ => answers_storeLane h.lane

theorem LineReady.execStL05_answers (h : LineReady s) : Answers (execStL05 s) :=
  answers_withCtx h.context fun _ => answers_orFault (laneAtIdx_of h.lane) (answers_storeLane h.lane)

theorem LineReady.execFsRot_answers (h : LineReady s) : Answers (execFsRot s) :=
  answers_withCtx h.context fun _ => answers_next _

theorem LineReady.execStRot_answers (h : LineReady s) : Answers (execStRot s) :=
  answers_withCtx h.context fun _ => answers_next _

/-! ### The builder, the reduction and the sequencer -/

theorem execCheck_answers (s : State) : Answers (execCheck s) := by
  unfold execCheck
  split <;> exact answers_next _

theorem buildOk.i_lt (h : buildOk s) : s.i.toNat < 2 ^ s.inst.bmCapBits := by
  obtain ⟨-, hc, hi⟩ := h
  exact Nat.lt_of_lt_of_le hi hc.mapSize_le

theorem execFill_answers (h : buildOk s) : Answers (execFill s) := by
  refine answers_orFault (writeByte_of_has _ (hasByte_bm.mpr h.i_lt)) ?_
  split
  · exact answers_next _
  · split <;> exact answers_next _

/-- The partner index is a cell of the table (40_bytemap_builder.md R125). -/
theorem execShuf_answers (h : buildOk s) : Answers (execShuf s) := by
  have hm : s.mask.toNat < 2 ^ s.inst.bmCapBits := h.2.1.mask_lt
  have hj := Nat.lt_of_le_of_lt
    (shufF_index_le s.inst.shuf s.r s.i s.ps (fun a => s.peekByte .bm a.toNat) s.mask) hm
  rw [execShuf, if_pos hm]
  exact .of_eq (exchange_of h.i_lt hj _)

theorem HashRunning.execRedLoad_answers (h : HashRunning s) (hr : reduceOk s) : Answers (execRedLoad s) := by
  obtain ⟨-, hk, -, -, hi⟩ := hr
  exact answers_orFault (readLane_of_has (h.hasLane hk hi)) (answers_next _)

theorem HashRunning.execRedEmit_answers (h : HashRunning s) (hr : reduceOk s) : Answers (execRedEmit s) := by
  obtain ⟨-, hk, -, -, hi⟩ := hr
  have hout : s.hasByte (.out s.kc.toNat) s.i.toNat = true :=
    hasByte_out.mpr ⟨h.kc_lt hk, Nat.lt_of_lt_of_le hi h.hashSize_le⟩
  exact answers_withCtx (h.kc_lt hk) fun _ => answers_orFault (probe_of h.mask_lt _) <|
    answers_orFault (readLane_of_has (h.hasLane hk hi)) <| answers_orFault (probe_of h.mask_lt _) <|
    answers_orFault (writeByte_of_has _ hout) (answers_next _)

theorem HashRunning.execHinit_answers (h : HashRunning s) : Answers (execHinit s) := by
  rw [execHinit, if_pos h.nb_le, if_pos h.hashSize_le]
  exact answers_next _

/-- Every position below the total length is a cell of the buffer it is fetched from (45_hash_sequencer.md R213,
46_optional_commands.md R237). -/
theorem inputByte_isSome (hc : 1 ≤ s.nCtx) (hh : hashOk s) (hk : s.kc.toNat < s.nCtx) (hp : s.p.toNat < s.n.toNat) :
    ∃ b, inputByte s = some b := by
  obtain ⟨-, -, -, -, -, -, hsingle, hbatch⟩ := hh
  unfold inputByte
  split
  · next h =>
    obtain ⟨hm, -⟩ := hbatch h.1
    exact ⟨_, readByte_of_has (hasByte_pfx.mpr (Nat.lt_of_lt_of_le h.2 hm))⟩
  · next hfirst =>
    split
    · next h =>
      have hpm : s.m.toNat ≤ s.p.toNat := Nat.le_of_not_lt fun hlt => hfirst ⟨h, hlt⟩
      have hrest : (s.p - s.m).toNat < s.inst.inCap := by
        obtain ⟨-, hn⟩ := hbatch h
        rw [BitVec.toNat_sub_of_le hpm]
        omega
      exact ⟨_, readByte_of_has (hasByte_inp.mpr ⟨hk, hrest⟩)⟩
    · next h => exact ⟨_, readByte_of_has (hasByte_inp.mpr ⟨hc, Nat.lt_of_lt_of_le hp (hsingle h)⟩)⟩

theorem execLdin_answers (hs : Sound s) (hb : s.status.busy = true) (hp : phaseOk .ldin s) : Answers (execLdin s) := by
  obtain ⟨hh, hk, -, -, hpos, -⟩ := hp
  have hk' := (HashRunning.of_sound hs hb hh).kc_lt hk
  obtain ⟨b, hb⟩ := inputByte_isSome hs.contexts.1 hh hk' hpos
  exact answers_orFault hb (answers_next _)

/-! ### A slot -/

/-- Every micro-operation of a sound block answers. -/
theorem exec_answers (hs : Sound s) (hb : s.status.busy = true) (hp : phaseOk i s) : Answers (exec i s) := by
  have run : hashOk s → HashRunning s := HashRunning.of_sound hs hb
  cases i
  case init => exact hp.elim
  case hash => exact hp.elim
  case prehash => exact hp.elim
  case posthash => exact hp.elim
  case hashbatch => exact hp.elim
  case check => exact execCheck_answers s
  case fill => exact execFill_answers hp.1
  case shuf => exact execShuf_answers hp.1
  case fsB => exact (lineReady_of_fastOk hs hb hp).execFsB_answers
  case fsHs => exact (lineReady_of_fastOk hs hb hp).execFsHs_answers
  case fsRot => exact (lineReady_of_fastOk hs hb hp).execFsRot_answers
  case stL05 => exact (lineReady_of_mixOk hs hb hp).execStL05_answers
  case stRot => exact (lineReady_of_mixOk hs hb hp).execStRot_answers
  case redLoad => exact (run hp.1).execRedLoad_answers hp
  case redEmit => exact (run hp.1.1).execRedEmit_answers hp.1
  case hinit => exact (run hp.1).execHinit_answers
  case ldin => exact execLdin_answers hs hb hp
  case adv => exact answers_next _
  case resume => exact answers_next _
  all_goals exact exec_answers_of_nextLine rfl hs hb hp

/-- The block's part of a slot: `upc` is idle or a micro-operation that answers. -/
theorem uopStep_answers (hs : Sound s) : Answers (uopStep s) := by
  have hq := hs.sequencer
  unfold sequencerOk at hq
  split at hq
  · next hi =>
    rw [uopStep_of hi]
    exact exec_answers hs hq.1 hq.2
  · next hi => exact .of_eq (by rw [uopStep, hi])
  · exact hq.elim

theorem acceptance_answers (s : State) (o : Byte) (f : Option BlockError) (latch : State → State) (k : Instr) :
    Answers (acceptance s o f latch k) := by
  unfold acceptance
  split
  · exact answers_next _
  · split <;> exact answers_next _

theorem exec_command_answers (hi : i ∈ commands) (s : State) : Answers (exec i s) := by
  obtain ⟨o, f, latch, k, he, -⟩ := exec_command_eq hi s
  rw [he]
  exact acceptance_answers s o f latch k

/-- A host write answers in every state: a command is accepted, ignored or turned away (30_encoding.md R92, R94). -/
theorem hostWrite_answers (s : State) (a : BitVec 8) (v : Word) : Answers (hostWrite s a v) := by
  unfold hostWrite commandWrite
  split
  · split
    · next hi => exact exec_command_answers (mem_commands_of_decodeCommand hi) s
    · exact answers_next _
  · exact answers_next _

/-- Settles O44, by what the host does in the slot: only a micro-operation could stop, and every one that a sound state runs
answers. -/
theorem soundStateAlwaysSteps : Obligations.SoundStateAlwaysSteps := by
  intro s hs
  have hs' : ∀ host rdata, Sound { s with host := host, rdata := rdata } := fun host rdata =>
    hs.withHost host rdata s.freeReads s.epoch
  cases hh : s.host with
  | nil =>
    rw [step_of_silent hh]
    exact uopStep_answers hs
  | cons e rest =>
    cases e with
    | quiet =>
      rw [step_of_quiet hh]
      exact uopStep_answers (hs' rest s.rdata)
    | wait =>
      rw [step_of_wait hh, waitSlot]
      split
      · exact uopStep_answers (hs' s.host _)
      · exact answers_next _
    | rd a => exact ⟨_, step_of_rd hh⟩
    | wr a v =>
      rw [step_of_wr hh]
      exact hostWrite_answers _ a v
    | reset => exact ⟨_, step_of_reset hh⟩

end Sys2Proof.Machine

/-! The codes (30_encoding.md R90, R91, R93, R99) and what running a code does: the decoder is the inverse of the encoder, a
slot of the block runs the operation at `upc`, a write of `CMD` runs the command written, and an idle block turns away every
other word (R94). -/

namespace Sys2Proof.Machine

open Sys2Proof

variable {s : State} {w : Word} {a : BitVec 8} {i : Instr} {rest : List HostEvent}

/-! ### The decoder against the encoder -/

theorem fields_of_decodeCommand (h : decodeCommand w = .ok i) :
    reservedField w = 0 ∧ tableLookup opcodeTable (opcodeField w) = some i := by
  unfold decodeCommand at h
  split at h
  · cases h
  · next hr =>
    split at h
    · next hl => exact ⟨not_not.mp hr, Except.ok.inj h ▸ hl⟩
    · cases h

theorem tableLookup_of_decodeUop (h : decodeUop a = .ok i) : tableLookup uopTable a = some i := by
  unfold decodeUop at h
  split at h
  · cases h
  · split at h
    · next hl => exact Except.ok.inj h ▸ hl
    · cases h

/-- A command word with bits 63:8 zero is its opcode (30_encoding.md R90). -/
theorem eq_setWidth_opcodeField (h : reservedField w = 0) : w = (opcodeField w).setWidth 64 := by
  have high : w.toNat / 2 ^ 8 % 2 ^ 56 = 0 := by
    simpa [reservedField, BitVec.extractLsb'_toNat, Nat.shiftRight_eq_div_pow] using congrArg BitVec.toNat h
  refine BitVec.eq_of_toNat_eq ?_
  simp only [opcodeField, BitVec.toNat_setWidth, BitVec.extractLsb'_toNat, Nat.shiftRight_zero]
  omega

theorem encode_of_mem_opcodeTable : ∀ x ∈ opcodeTable, encode x.2 = .command (x.1.setWidth 64) := by decide

theorem encode_of_mem_uopTable : ∀ x ∈ uopTable, encode x.2 = .uop x.1 := by decide

theorem encode_of_decodeCommand (h : decodeCommand w = .ok i) : encode i = .command w := by
  obtain ⟨hr, hi⟩ := fields_of_decodeCommand h
  rw [encode_of_mem_opcodeTable _ (mem_of_tableLookup hi), ← eq_setWidth_opcodeField hr]

theorem encode_of_decodeUop (h : decodeUop a = .ok i) : encode i = .uop a :=
  encode_of_mem_uopTable _ (mem_of_tableLookup (tableLookup_of_decodeUop h))

theorem decode_encode (i : Instr) : decode (encode i) = .ok i := by
  cases i <;> rfl

/-- Settles O2: what decodes stands in one of the tables, whose rows are the codes `encode` gives; and every operation is
what its own code decodes to. -/
theorem decodingInvertsEncoding : Obligations.DecodingInvertsEncoding := by
  intro c i
  constructor
  · intro h
    cases c with
    | command w => exact (encode_of_decodeCommand h).symm
    | uop a => exact (encode_of_decodeUop h).symm
  · rintro rfl
    exact decode_encode i

theorem decodeCommand_eq_ok_iff_encode : decodeCommand w = .ok i ↔ encode i = .command w :=
  (decodingInvertsEncoding (.command w) i).trans eq_comm

/-- Settles O1, by the round trip of the five commands and the decoder's equations for the micro-addresses. -/
theorem listedCodesDecode : Obligations.ListedCodesDecode :=
  ⟨⟨decode_encode .init, decode_encode .hash, decode_encode .prehash, decode_encode .posthash, decode_encode .hashbatch⟩,
    decodeUop_check, decodeUop_shuf, decodeUop_fsB, decodeUop_fsRot, decodeUop_stL01, decodeUop_stL27, decodeUop_stRot,
    decodeUop_redEmit, decodeUop_resume⟩

/-! ### The step that runs a code (R93, R92) -/

theorem waitSlot_of_busy (hb : s.status.busy = true) :
    waitSlot s rest = uopStep { s with rdata := statusWord s.status } := if_pos hb

/-- Settles O3: in each of the three slots the step is the block's own part of it, at the same `upc`. -/
theorem stepRunsMicroOperationAtUpc : Obligations.StepRunsMicroOperationAtUpc := by
  intro s i hi
  refine ⟨fun hh => ?_, fun rest hh => ?_, fun rest hh hb => ?_⟩
  · rw [step_of_silent hh, uopStep_of hi]
  · rw [step_of_quiet hh, uopStep_of (s := { s with host := rest }) hi]
  · rw [step_of_wait hh, waitSlot_of_busy hb, uopStep_of (s := { s with rdata := statusWord s.status }) hi]

/-- Register 0x00 is `CMD` (10_state.md R28). -/
theorem step_of_wr_cmd (hh : s.host = .wr 0x00 w :: rest) : step s = commandWrite { s with host := rest } w :=
  (step_of_wr hh).trans (if_pos rfl)

theorem commandWrite_of_ok (s : State) (h : decodeCommand w = .ok i) : commandWrite s w = exec i s := by
  simp [commandWrite, h]

theorem commandWrite_of_error (s : State) {e : DecodeError} (h : decodeCommand w = .error e) :
    commandWrite s w = .next (rejectCommand s) := by
  simp [commandWrite, h]

/-- Settles O4: the write of `CMD` decodes the word and runs what it finds. -/
theorem stepRunsCommandWritten : Obligations.StepRunsCommandWritten := by
  intro s rest w i hh hi
  rw [step_of_wr_cmd hh, commandWrite_of_ok _ hi]

/-! ### Acceptance (R92) and the words an idle block turns away (R94) -/

/-- Settles O8: acceptance is ignored while busy. -/
theorem commandIgnoredWhileBusy : Obligations.CommandIgnoredWhileBusy :=
  fun _ _ hi hb => exec_command_of_busy hi hb

/-- Settles O9: `INIT` has no check, so an idle block accepts it; the latches are those of `execInit`. -/
theorem initIsAccepted : Obligations.InitIsAccepted := by
  intro s hb
  rw [exec_init, execInit, acceptance_of_accepted hb]
  rfl

/-- An error at acceptance changes STATUS and `upc` and nothing else (60_exceptions.md R256). -/
theorem raise_accepted (e : BlockError) (s : State) :
    raise e (accepted s) =
      { s with status := failedStatus s.status.configured (errcodeOf e) (errinfoOf e), upc := 0 } := rfl

/-- The first check of an optional command is that the instance has it (60_exceptions.md R253). -/
theorem acceptance_of_absent {present : Bool} (hb : s.status.busy = false) (hp : present = false) {o : Byte}
    {l : List (Bool × BlockError)} {latch : State → State} {k : Instr} :
    acceptance s o (firstError ((!present, .badOpcode) :: l)) latch k = .next (raise .badOpcode (accepted s)) := by
  rw [hp, Bool.not_false, firstError_cons_true, acceptance_of_failed hb]

theorem exec_of_absent (hb : s.status.busy = false) (hp : i.present s.inst = false) :
    exec i s = .next (raise .badOpcode (accepted s)) := by
  cases i
  case prehash => rw [exec_prehash, execPrehash, prehashError, acceptance_of_absent (present := s.inst.hasSplit) hb hp]
  case posthash => rw [exec_posthash, execPosthash, posthashError, acceptance_of_absent (present := s.inst.hasSplit) hb hp]
  case hashbatch => rw [exec_hashbatch, execHashbatch, hashbatchError, acceptance_of_absent (present := s.inst.hasBatch) hb hp]
  all_goals cases hp

/-- A word that is the code of no command of the instance: it does not decode, or names an absent command. -/
theorem commandWrite_of_illegal (hb : s.status.busy = false)
    (hw : ∀ i : Instr, i.present s.inst = true → encode i ≠ .command w) :
    commandWrite s w = .next (raise .badOpcode (accepted s)) := by
  cases hd : decodeCommand w with
  | error e => rw [commandWrite_of_error s hd, rejectCommand, if_neg (by simp [hb])]
  | ok i =>
    have absent : i.present s.inst = false :=
      Bool.eq_false_iff.mpr fun hp => hw i hp (encode_of_decodeCommand hd)
    rw [commandWrite_of_ok s hd, exec_of_absent hb absent]

/-- Settles O6: by O2 the code of a command decodes to it and is run (O4); every other word raises BAD_OPCODE. -/
theorem illegalWordOnlyRecordsTheError : Obligations.IllegalWordOnlyRecordsTheError := by
  intro s rest w hh hb
  refine ⟨fun i _ hi => stepRunsCommandWritten s rest w i hh (decodeCommand_eq_ok_iff_encode.mpr hi), fun hw => ?_⟩
  rw [step_of_wr_cmd hh, commandWrite_of_illegal (s := { s with host := rest }) hb hw, raise_accepted]
  rfl

end Sys2Proof.Machine

/-! The three micro-operations of the builder (40_bytemap_builder.md R121, R124, R127) and its stepping function (R125): the
next state of each, from which the invariant of the table and the whole of INIT are proved below. -/

namespace Sys2Proof.Machine

open Sys2Proof

variable {s t u : State}

/-! ### CHECK (R121) -/

theorem mapSizeOf_eq_ofNat (mb : Word) : mapSizeOf mb = BitVec.ofNat 64 (2 ^ mb.toNat) := by
  refine BitVec.eq_of_toNat_eq ?_
  simp [mapSizeOf, BitVec.toNat_shiftLeft, Nat.shiftLeft_eq]

theorem mapSizeOf_sub_one_eq_ofNat (mb : Word) : mapSizeOf mb - 1 = BitVec.ofNat 64 (2 ^ mb.toNat - 1) := by
  rw [mapSizeOf_eq_ofNat]
  exact BitVec.ofNat_sub_ofNat_of_le _ _ (by decide) Nat.one_le_two_pow

/-- CHECK finds no error exactly when the copied arguments are legal (60_exceptions.md R252). -/
theorem checkError_eq_none_iff :
    checkError s = none ↔ 1 ≤ s.cHsz.toNat ∧ s.cHsz.toNat ≤ s.inst.hsCap ∧ 8 ≤ s.cMb.toNat ∧ s.cMb.toNat ≤ 34
      ∧ s.cMb.toNat ≤ s.inst.bmCapBits := by
  constructor
  · intro h
    obtain ⟨h1, h8, h34, hcap, hbits⟩ := checkError_eq_none h
    exact ⟨h1, hcap, h8, h34, hbits⟩
  · rintro ⟨h1, hcap, h8, h34, hbits⟩
    have h0 : s.cHsz ≠ 0#64 := by
      rintro h
      simp [h] at h1
    rw [checkError, firstError_eq_none]
    simp [h0, h8, h34, hcap, hbits]

/-- Settles O16: with no cause of error CHECK goes on from the latched configuration. -/
theorem checkLatchesTheConfiguration : Obligations.CheckLatchesTheConfiguration := by
  intro s h1 hcap h8 h34 hbits
  have legal : checkError s = none := checkError_eq_none_iff.mpr ⟨h1, hcap, h8, h34, hbits⟩
  rw [exec_check, execCheck, legal, ← mapSizeOf_eq_ofNat, ← mapSizeOf_sub_one_eq_ofNat]
  rfl

/-! ### FILL (R124) -/

theorem trunc8_eq_ofNat_mod (w : Word) : trunc8 w = BitVec.ofNat 8 (w.toNat % 256) := by
  refine BitVec.eq_of_toNat_eq ?_
  simp [trunc8]

theorem byteWritten_pokeByte_bm (s : State) (a : Nat) (v : Byte) : byteWritten s (s.pokeByte .bm a v) .bm a v :=
  ⟨peekByte_pokeByte_bm s a v, peekLane_pokeByte s .bm a v, rfl⟩

theorem byteWritten_of_memoriesKept {sp : ByteSpace} {a : Nat} {v : Byte} (h : byteWritten s u sp a v)
    (hk : MemoriesKept u t) : byteWritten s t sp a v := by
  obtain ⟨hbyte, hlane, hwords⟩ := h
  obtain ⟨hbyte', hlane'⟩ := hk.readsAlike
  obtain ⟨-, -, hctxs, -⟩ := hk
  exact ⟨fun sp' a' => (hbyte' sp' a').trans (hbyte sp' a'), fun k a' => (hlane' k a').trans (hlane k a'), hctxs ▸ hwords⟩

/-- Settles O18, by the three ways FILL goes on after its store. -/
theorem fillWritesOneCell : Obligations.FillWritesOneCell := by
  intro s hi
  have written := byteWritten_pokeByte_bm s s.i.toNat (BitVec.ofNat 8 (s.i.toNat % 256))
  rw [exec_fill, execFill, writeByte_of_has _ (hasByte_bm.mpr hi), orFault_some, trunc8_eq_ofNat_mod]
  split_ifs
  · exact ⟨_, rfl, byteWritten_of_memoriesKept written ⟨rfl, rfl, rfl, rfl⟩, rfl⟩
  · exact ⟨_, rfl, byteWritten_of_memoriesKept written ⟨rfl, rfl, rfl, rfl⟩, rfl⟩
  · exact ⟨_, rfl, byteWritten_of_memoriesKept written ⟨rfl, rfl, rfl, rfl⟩, rfl⟩

/-! ### The stepping function (R125) -/

theorem toNat_and_le_right (v mk : Word) : (v &&& mk).toNat ≤ mk.toNat := by
  rw [BitVec.toNat_and]
  exact Nat.and_le_right

/-- R125 item 2: both choices read the table at addresses masked with `MK` alone. -/
theorem shufF_congr (c : ShufChoice) (r i ps : Word) {bm bm' : Word → Byte} {mk : Word}
    (h : ∀ a : Word, a.toNat ≤ mk.toNat → bm a = bm' a) : shufF c r i ps bm mk = shufF c r i ps bm' mk := by
  have masked : ∀ v, bm (v &&& mk) = bm' (v &&& mk) := fun v => h _ (toNat_and_le_right v mk)
  cases c with
  | dflt => simp only [shufF, shufFDefault, masked]
  | other => simp only [shufF, masked]

/-- Settles O20: the index is masked with `MK`, and so is every address read. -/
theorem steppingFunctionMeetsItsContract : Obligations.SteppingFunctionMeetsItsContract :=
  fun c r i ps bm _ mk => ⟨shufF_index_le c r i ps bm mk, shufF_congr c r i ps⟩

/-! ### SHUF (R127) -/

/-- Where a shuffle step goes on to, field by field. -/
theorem shufNext_eq (s : State) :
    let i' : Word := if s.i + 1 = s.mapSize then 0 else s.i + 1
    let ps' : Word := if s.i + 1 = s.mapSize then s.ps + 1 else s.ps
    shufNext s = if ps' = s.passes then
        { s with i := i', ps := ps', upc := 0, status := { s.status with configured := true, done := true, busy := false } }
      else { s with i := i', ps := ps', upc := 0x22 } := rfl

/-- Settles O19: the partner index is at most `MK`, so SHUF exchanges two cells the RAM has. -/
theorem shuffleExchangesTwoCells : Obligations.ShuffleExchangesTwoCells := by
  intro s hi hm q i' ps'
  have hq : q.2.toNat < 2 ^ s.inst.bmCapBits := Nat.lt_of_le_of_lt (shufF_index_le _ _ _ _ _ _) hm
  let x := (s.pokeByte .bm s.i.toNat (s.peekByte .bm q.2.toNat)).pokeByte .bm q.2.toNat (s.peekByte .bm s.i.toNat)
  let w : State := { x with r := q.1, j := q.2 }
  have run : exec .shuf s = .next (shufNext w) := by
    rw [exec_shuf, execShuf, if_pos hm, exchange_of hi hq]
  have reads : ∀ sp a, (shufNext w).peekByte sp a = x.peekByte sp a := fun sp a =>
    ((ControlMove.shufNext w).readsAlike.1 sp a).trans (peekByte_of_memories rfl rfl rfl rfl sp a)
  refine ⟨shufNext w, run, ?_, ?_, fun sp a hn => ?_, ?_⟩
  · rw [reads, peekByte_exchanged, if_pos ⟨rfl, rfl⟩]
  · rw [reads, peekByte_exchanged]
    split
    · next h => rw [h.2]
    · exact if_pos ⟨rfl, rfl⟩
  · rw [reads, peekByte_exchanged, if_neg fun h => hn ⟨h.1, .inl h.2⟩, if_neg fun h => hn ⟨h.1, .inr h.2⟩]
  · obtain ⟨_, _, _, _, _, _, _, _, hmove⟩ := ControlMove.shufNext w
    have hbm : (shufNext w).bm = x.bm := by rw [hmove]
    rw [hbm, shufNext_eq]
    rfl

end Sys2Proof.Machine

/-! The balance of the table (40_bytemap_builder.md R128): a permutation of 0..MAPSIZE−1, each value mod 256, takes every byte
value equally often; the unshuffled fill holds the low byte of every address. -/

namespace Sys2Proof.Machine

open Sys2Proof

variable {s t : State}

/-! ### Permutations of a range -/

/-- An injective map of a range into itself only reorders it. -/
theorem map_range_perm {n : Nat} {π : Nat → Nat} (hlt : ∀ a < n, π a < n)
    (hinj : ∀ a < n, ∀ b < n, π a = π b → a = b) : ((List.range n).map π).Perm (List.range n) := by
  have nodup : ((List.range n).map π).Nodup := List.nodup_range.map_on fun a ha b hb hab =>
    hinj a (List.mem_range.mp ha) b (List.mem_range.mp hb) hab
  have subset : (List.range n).map π ⊆ List.range n := by
    intro b hb
    obtain ⟨a, ha, rfl⟩ := List.mem_map.mp hb
    exact List.mem_range.mpr (hlt a (List.mem_range.mp ha))
  exact (nodup.subperm subset).perm_of_length_le (by simp)

/-- A permuted table lists the bytes of the fill in some order. -/
theorem bytesOf_perm_filledTable (h : tablePermuted s) :
    (bytesOf s .bm s.mapSize.toNat).Perm (filledTable s.mapSize.toNat) := by
  obtain ⟨π, hlt, hinj, hbyte⟩ := h
  have reordered : bytesOf s .bm s.mapSize.toNat = ((List.range s.mapSize.toNat).map π).map (BitVec.ofNat 8) := by
    rw [List.map_map]
    exact List.map_congr_left fun a ha => hbyte a (List.mem_range.mp ha)
  rw [reordered]
  exact (map_range_perm hlt hinj).map _

/-! ### The balance of the fill (R128 item 2) -/

theorem histogram_eq_countP (s : State) (v : Byte) :
    histogram s v = (bytesOf s .bm s.mapSize.toNat).countP (· = v) := by
  rw [histogram, bytesOf, List.countP_map]
  rfl

theorem ofNat_eq_iff_modEq (v : Byte) (a : Nat) : BitVec.ofNat 8 a = v ↔ a ≡ v.toNat [MOD 256] := by
  rw [← BitVec.toNat_inj, BitVec.toNat_ofNat, Nat.ModEq, Nat.mod_eq_of_lt (b := 256) v.isLt]

/-- A fill of a multiple of 256 cells holds every byte value equally often. -/
theorem countP_filledTable {n : Nat} (hn : 256 ∣ n) (v : Byte) : (filledTable n).countP (· = v) = n / 256 := by
  have residues : (filledTable n).countP (· = v) = n.count (· ≡ v.toNat [MOD 256]) := by
    rw [filledTable, List.countP_map, Nat.count]
    exact List.countP_congr fun a _ => by simp [ofNat_eq_iff_modEq]
  rw [residues, Nat.count_modEq_card n (by decide), Nat.mod_eq_zero_of_dvd hn, if_neg (Nat.not_lt_zero _), Nat.add_zero]

theorem configOk.dvd_mapSize (h : configOk s) : 256 ∣ s.mapSize.toNat := by
  obtain ⟨h8, -, -, hsize, -⟩ := h
  rw [hsize]
  exact pow_dvd_pow 2 h8

/-- Settles O47: the table reorders the fill, and the fill is balanced. -/
theorem tableIsBalanced : Obligations.TableIsBalanced := by
  intro s hs ht hc v
  rw [histogram_eq_countP, (bytesOf_perm_filledTable (ht.shuffled (.inl hc))).countP_eq]
  exact countP_filledTable (hs.config hc).dvd_mapSize v

/-! ### The unshuffled table (R128 item 5) -/

theorem configOk.mask_toNat (h : configOk s) : s.mask.toNat = 2 ^ s.mapSizeBits.toNat - 1 := by
  obtain ⟨-, -, -, hsize, hmask, -⟩ := h
  have hpos : 0 < s.mapSize.toNat := hsize ▸ Nat.two_pow_pos _
  rw [← hsize, hmask]
  bv_omega

theorem configOk.mask_lt_mapSize (h : configOk s) : s.mask.toNat < s.mapSize.toNat := by
  have hmask := h.mask_toNat
  obtain ⟨-, -, -, hsize, -⟩ := h
  have hpos := Nat.two_pow_pos s.mapSizeBits.toNat
  omega

/-- A probe of a legal table goes to the cell `v mod MAPSIZE` (41_lookup_and_rotation.md R140). -/
theorem configOk.probeAddress_eq (h : configOk s) (v : Word) : probeAddress s v = v.toNat % s.mapSize.toNat := by
  obtain ⟨-, -, -, hsize, -⟩ := id h
  rw [probeAddress, BitVec.toNat_and, h.mask_toNat, Nat.and_two_pow_sub_one_eq_mod, hsize]

/-- Settles O48: the probe reads the fill at `v mod MAPSIZE`, whose low byte is that of `v`. -/
theorem unshuffledTableIsTheLowByte : Obligations.UnshuffledTableIsTheLowByte := by
  intro s hs ht hc hp v
  have hconf := hs.config hc
  have inside : v.toNat % s.mapSize.toNat < s.mapSize.toNat := by
    obtain ⟨-, -, -, hsize, -⟩ := hconf
    exact Nat.mod_lt _ (hsize ▸ Nat.two_pow_pos _)
  rw [probe_of hconf.mask_lt, tableOf, hconf.probeAddress_eq, ht.unshuffled hc hp _ inside]
  refine congrArg some (BitVec.eq_of_toNat_eq ?_)
  have low : (0xFF : Word).toNat = 2 ^ 8 - 1 := rfl
  rw [zext64, BitVec.toNat_and, low, Nat.and_two_pow_sub_one_eq_mod, BitVec.toNat_setWidth, BitVec.toNat_ofNat,
    Nat.mod_mod_of_dvd _ hconf.dvd_mapSize]
  omega

end Sys2Proof.Machine

/-! The invariant of the table (40_bytemap_builder.md R128, 20_memory.md R71) is kept by every step. FILL extends the filled
part by one cell and SHUF composes the permutation with a transposition; every other operation and every host access leaves
the table alone and goes on to neither of the two. -/

namespace Sys2Proof.Machine

open Sys2Proof

variable {s t u : State} {i k : Instr}

/-! ### Steps that leave the table alone -/

/-- `t` holds the table of `s`, with its size and its number of passes. -/
def TableKept (s t : State) : Prop :=
  t.mapSize = s.mapSize ∧ t.passes = s.passes ∧ t.bm = s.bm ∧ t.epoch = s.epoch

/-- A micro-address at which the builder is not at work on the table: neither FILL nor SHUF. -/
def OffBuilder (a : BitVec 8) : Prop := a ≠ microAddress .fill ∧ a ≠ microAddress .shuf

theorem offBuilder_idle : OffBuilder 0 := ⟨by decide, by decide⟩

theorem offBuilder_microAddress (hf : k ≠ .fill) (hs : k ≠ .shuf) : OffBuilder (microAddress k) := by
  cases k
  case fill => exact absurd rfl hf
  case shuf => exact absurd rfl hs
  all_goals exact ⟨by decide, by decide⟩

theorem offBuilder_goto (s : State) (hf : k ≠ .fill) (hs : k ≠ .shuf) : OffBuilder (s.goto k).upc :=
  offBuilder_microAddress hf hs

theorem TableKept.tableFilled (h : TableKept s t) {count : Nat} (hf : tableFilled s count) : tableFilled t count := by
  obtain ⟨-, -, hb, he⟩ := h
  exact fun a ha => (peekByte_congr (sp := .bm) hb he).trans (hf a ha)

theorem TableKept.tablePermuted (h : TableKept s t) (hp : tablePermuted s) : tablePermuted t := by
  obtain ⟨hm, -, hb, he⟩ := h
  obtain ⟨π, hlt, hinj, hbyte⟩ := hp
  refine ⟨π, ?_⟩
  rw [hm]
  exact ⟨hlt, hinj, fun a ha => (peekByte_congr (sp := .bm) hb he).trans (hbyte a ha)⟩

/-- A step that leaves the table alone keeps the invariant, if it neither configures the block nor goes to FILL or SHUF. -/
theorem TableInv.of_tableKept (ht : TableInv s) (hk : TableKept s t)
    (hc : t.status.configured = true → s.status.configured = true) (hu : (t.upc = s.upc ∧ t.i = s.i) ∨ OffBuilder t.upc) :
    TableInv t where
  filling hf := by
    rcases hu with ⟨hupc, hi⟩ | hoff
    · rw [hi]
      exact hk.tableFilled (ht.filling (hupc ▸ hf))
    · exact absurd hf hoff.1
  shuffled hs := by
    refine hk.tablePermuted (ht.shuffled ?_)
    rcases hs with hconf | hshuf
    · exact .inl (hc hconf)
    · rcases hu with ⟨hupc, -⟩ | hoff
      · exact .inr (hupc ▸ hshuf)
      · exact absurd hshuf hoff.2
  unshuffled hconf hp := by
    obtain ⟨hm, hpasses, -, -⟩ := id hk
    rw [hm]
    exact hk.tableFilled (ht.unshuffled (hc hconf) (hpasses ▸ hp))

/-- Of a block that is not configured and not at work on the table nothing is claimed. -/
theorem tableInv_of_unconfigured (hc : t.status.configured = false) (hu : OffBuilder t.upc) : TableInv t where
  filling hf := absurd hf hu.1
  shuffled hs := hs.elim (fun h => absurd (hc.symm.trans h) (by decide)) fun h => absurd h hu.2
  unshuffled h := absurd (hc.symm.trans h) (by decide)

/-- During the fill nothing but the filled part is claimed. -/
theorem tableInv_of_filling (hc : t.status.configured = false) (hu : t.upc = microAddress .fill)
    (hf : tableFilled t t.i.toNat) : TableInv t where
  filling _ := hf
  shuffled hs := hs.elim (fun h => absurd (hc.symm.trans h) (by decide)) fun h => absurd (hu.symm.trans h) (by decide)
  unshuffled h := absurd (hc.symm.trans h) (by decide)

theorem tableInv_of_permuted (hu : t.upc ≠ microAddress .fill) (hp : tablePermuted t)
    (hf : t.status.configured = true → t.passes = 0 → tableFilled t t.mapSize.toNat) : TableInv t where
  filling h := absurd h hu
  shuffled _ := hp
  unshuffled := hf

/-! ### Hash operations -/

theorem exec_tableKept (hc : i ≠ .check) (hf : i ≠ .fill) (hs : i ≠ .shuf) (h : exec i s = .next t) : TableKept s t := by
  obtain ⟨u, hu, _, _, _, _, _, _, _, _, rfl⟩ := exec_effect i h
  cases hu with
  | configure => exact absurd rfl hc
  | fill => exact absurd rfl hf
  | shuf => exact absurd rfl hs
  | _ => exact ⟨rfl, rfl, rfl, rfl⟩

theorem offBuilder_decideNext (s : State) : OffBuilder (decideNext s).upc := by
  rcases decideNext_cases s with ⟨-, h⟩ | ⟨-, -, -, h⟩ | ⟨-, -, -, -, h⟩ | ⟨-, -, h⟩ <;> rw [h]
  · exact offBuilder_goto _ (by decide) (by decide)
  · exact offBuilder_idle
  · exact offBuilder_goto _ (by decide) (by decide)
  · exact offBuilder_goto _ (by decide) (by decide)

theorem offBuilder_nextContext (s : State) : OffBuilder (nextContext s).upc := by
  rcases nextContext_cases s with ⟨-, h⟩ | ⟨-, h⟩ <;> rw [h] <;> exact offBuilder_goto _ (by decide) (by decide)

theorem offBuilder_afterStep (s : State) : OffBuilder (afterStep s).upc := by
  rcases afterStep_cases s with ⟨-, h⟩ | ⟨-, h⟩ <;> rw [h]
  · exact offBuilder_goto _ (by decide) (by decide)
  · exact offBuilder_nextContext s

theorem offBuilder_afterEmit (s : State) : OffBuilder (afterEmit s).upc := by
  rcases afterEmit_cases s with ⟨-, h⟩ | ⟨-, -, h⟩ | ⟨-, -, h⟩ <;> rw [h]
  · exact offBuilder_goto _ (by decide) (by decide)
  · exact offBuilder_goto _ (by decide) (by decide)
  · exact offBuilder_idle

theorem offBuilder_nextLine (hk : nextLine i = some k) : OffBuilder (microAddress k) := by
  cases i <;> cases hk <;> exact offBuilder_microAddress (by decide) (by decide)

/-- No hash operation goes on to the builder (45_hash_sequencer.md R212). -/
theorem exec_offBuilder (hi : hashOperation i) (h : exec i s = .next t) : OffBuilder t.upc := by
  obtain ⟨hcommand, hcheck, hfill, hshuf⟩ := hi
  have line : ∀ {k}, nextLine i = some k → OffBuilder t.upc := fun hk => by
    obtain ⟨_, _, -, -, rfl⟩ := exec_nextLine hk h
    exact offBuilder_nextLine hk
  cases i
  case init => exact absurd (by decide) hcommand
  case hash => exact absurd (by decide) hcommand
  case prehash => exact absurd (by decide) hcommand
  case posthash => exact absurd (by decide) hcommand
  case hashbatch => exact absurd (by decide) hcommand
  case check => exact absurd rfl hcheck
  case fill => exact absurd rfl hfill
  case shuf => exact absurd rfl hshuf
  case fsB =>
    obtain ⟨_, rfl⟩ := execFsB_eq_next h
    exact offBuilder_goto _ (by decide) (by decide)
  case fsHs =>
    obtain ⟨-, _, rfl⟩ := execFsHs_eq_next h
    exact offBuilder_goto _ (by decide) (by decide)
  case stL05 =>
    obtain ⟨-, _, rfl⟩ := execStL05_eq_next h
    exact offBuilder_goto _ (by decide) (by decide)
  case fsRot =>
    obtain ⟨_, -, rfl⟩ := execFsRot_eq_next h
    exact offBuilder_nextContext _
  case stRot =>
    obtain ⟨_, -, rfl⟩ := execStRot_eq_next h
    exact offBuilder_afterStep _
  case redLoad =>
    obtain ⟨_, rfl⟩ := execRedLoad_eq_next h
    exact offBuilder_goto _ (by decide) (by decide)
  case redEmit =>
    obtain ⟨-, _, rfl⟩ := execRedEmit_eq_next h
    exact offBuilder_afterEmit _
  case hinit =>
    obtain ⟨-, -, rfl⟩ := execHinit_eq_next h
    exact offBuilder_decideNext _
  case ldin =>
    obtain ⟨_, ⟨-, rfl⟩ | ⟨-, rfl⟩⟩ := execLdin_eq_next h <;> exact offBuilder_goto _ (by decide) (by decide)
  case adv =>
    obtain rfl := Host.Outcome.next.inj h
    exact offBuilder_decideNext _
  case resume =>
    obtain rfl := Host.Outcome.next.inj h
    exact offBuilder_decideNext _
  all_goals exact line rfl

/-- A hash operation runs on a configured block (60_exceptions.md R253). -/
theorem hashOk_of_phaseOk (hi : hashOperation i) (hp : phaseOk i s) : hashOk s := by
  obtain ⟨-, hcheck, hfill, hshuf⟩ := hi
  cases i
  case init => exact hp.elim
  case hash => exact hp.elim
  case prehash => exact hp.elim
  case posthash => exact hp.elim
  case hashbatch => exact hp.elim
  case check => exact absurd rfl hcheck
  case fill => exact absurd rfl hfill
  case shuf => exact absurd rfl hshuf
  case fsAs => exact hp.1.1
  case redEmit => exact hp.1.1
  all_goals exact hp.1

theorem exec_hashOperation_keeps_tableInv (hi : hashOperation i) (hp : phaseOk i s) (ht : TableInv s)
    (h : exec i s = .next t) : TableInv t := by
  obtain ⟨-, hcheck, hfill, hshuf⟩ := id hi
  exact ht.of_tableKept (exec_tableKept hcheck hfill hshuf h) (fun _ => (hashOk_of_phaseOk hi hp).1)
    (.inr (exec_offBuilder hi h))

/-! ### The builder -/

theorem execCheck_keeps_tableInv (h : execCheck s = .next t) : TableInv t := by
  rcases execCheck_eq_next h with ⟨e, rfl⟩ | ⟨-, rfl⟩
  · exact tableInv_of_unconfigured rfl offBuilder_idle
  · exact tableInv_of_filling rfl rfl fun a ha => absurd ha (Nat.not_lt_zero a)

/-- The fill is the identity permutation. -/
theorem tablePermuted_of_tableFilled (h : tableFilled s s.mapSize.toNat) : tablePermuted s :=
  ⟨id, fun _ ha => ha, fun _ _ _ _ hab => hab, h⟩

/-- The store of FILL extends the filled part of the table (R124). -/
theorem tableFilled_succ {n : Nat} (h : tableFilled s n) (hw : byteWritten s t .bm n (BitVec.ofNat 8 (n % 256))) :
    tableFilled t (n + 1) := by
  intro a ha
  rw [hw.1]
  split
  · next hn =>
    rw [hn.2]
    exact BitVec.eq_of_toNat_eq (by simp)
  · next hn => exact h a (by
      have : a ≠ n := fun e => hn ⟨rfl, e⟩
      omega)

theorem execFill_keeps_tableInv (hp : phaseOk .fill s) (ht : TableInv s) (hu : s.upc = microAddress .fill)
    (h : exec .fill s = .next t) : TableInv t := by
  obtain ⟨⟨hc, hconf, hi⟩, -⟩ := hp
  obtain ⟨t', ht', written, hnext⟩ := fillWritesOneCell s (Nat.lt_of_lt_of_le hi hconf.mapSize_le)
  obtain rfl : t' = t := Host.Outcome.next.inj (ht'.symm.trans h)
  have filled : tableFilled t' (s.i.toNat + 1) := tableFilled_succ (ht.filling hu) written
  have last : ¬(s.i + 1).toNat < s.mapSize.toNat → s.i.toNat + 1 = s.mapSize.toNat := fun hlt => by bv_omega
  clear ht' h written
  generalize t'.bm = b at hnext
  split_ifs at hnext with hlt hpass <;> subst hnext
  · have hi1 : (s.i + 1).toNat = s.i.toNat + 1 := by bv_omega
    exact tableInv_of_filling hc rfl (hi1 ▸ filled)
  · exact tableInv_of_permuted offBuilder_idle.1 (tablePermuted_of_tableFilled (last hlt ▸ filled))
      fun _ _ => last hlt ▸ filled
  · exact tableInv_of_permuted (by decide : (0x22 : BitVec 8) ≠ microAddress .fill)
      (tablePermuted_of_tableFilled (last hlt ▸ filled)) fun h => absurd (hc.symm.trans h) (by decide)

/-- Exchanging two cells composes the permutation with a transposition. -/
theorem tablePermuted_exchanged {a b : Nat} (h : tablePermuted s) (hm : t.mapSize = s.mapSize) (ha : a < s.mapSize.toNat)
    (hb : b < s.mapSize.toNat) (hx : ∀ c, t.peekByte .bm c = s.peekByte .bm (Equiv.swap a b c)) : tablePermuted t := by
  obtain ⟨π, hlt, hinj, hbyte⟩ := h
  have inside : ∀ c < s.mapSize.toNat, Equiv.swap a b c < s.mapSize.toNat := fun c hc => by
    rw [Equiv.swap_apply_def]
    split_ifs <;> assumption
  refine ⟨π ∘ Equiv.swap a b, ?_⟩
  rw [hm]
  refine ⟨fun c hc => hlt _ (inside c hc), fun c hc d hd hcd => ?_, fun c hc => ?_⟩
  · exact (Equiv.swap a b).injective (hinj _ (inside c hc) _ (inside d hd) hcd)
  · rw [hx]
    exact hbyte _ (inside c hc)

/-- The reads after SHUF, as a transposition of the addresses (R127). -/
theorem peekByte_swap {a b : Nat} (hfirst : t.peekByte .bm a = s.peekByte .bm b)
    (hsecond : t.peekByte .bm b = s.peekByte .bm a)
    (hothers : ∀ c, ¬(c = a ∨ c = b) → t.peekByte .bm c = s.peekByte .bm c) (c : Nat) :
    t.peekByte .bm c = s.peekByte .bm (Equiv.swap a b c) := by
  by_cases ha : c = a
  · rw [ha, Equiv.swap_apply_left, hfirst]
  · by_cases hb : c = b
    · rw [hb, Equiv.swap_apply_right, hsecond]
    · rw [Equiv.swap_apply_of_ne_of_ne ha hb, hothers c fun h => h.elim ha hb]

theorem execShuf_keeps_tableInv (hp : phaseOk .shuf s) (ht : TableInv s) (hu : s.upc = microAddress .shuf)
    (h : exec .shuf s = .next t) : TableInv t := by
  obtain ⟨⟨hc, hconf, hi⟩, hps⟩ := hp
  obtain ⟨t', ht', hfirst, hsecond, hothers, hnext⟩ :=
    shuffleExchangesTwoCells s (Nat.lt_of_lt_of_le hi hconf.mapSize_le) hconf.mask_lt
  obtain rfl : t' = t := Host.Outcome.next.inj (ht'.symm.trans h)
  have hmask : s.mask.toNat < s.mapSize.toNat := hconf.mask_lt_mapSize
  have hq := Nat.lt_of_le_of_lt
    (shufF_index_le s.inst.shuf s.r s.i s.ps (fun a => s.peekByte .bm a.toNat) s.mask) hmask
  have swapped := peekByte_swap hfirst hsecond fun c hc => hothers .bm c fun h => hc h.2
  have permuted : t'.mapSize = s.mapSize → tablePermuted t' := fun hm =>
    tablePermuted_exchanged (ht.shuffled (.inr hu)) hm hi hq swapped
  have hpasses : s.passes ≠ 0 := by
    rintro h0
    simp [h0] at hps
  clear ht' h hfirst hsecond hothers swapped
  generalize t'.bm = b, (if s.i + 1 = s.mapSize then 0 else s.i + 1) = i',
    (if s.i + 1 = s.mapSize then s.ps + 1 else s.ps) = ps' at hnext
  split_ifs at hnext <;> subst hnext
  · exact tableInv_of_permuted offBuilder_idle.1 (permuted rfl) fun _ h => absurd h hpasses
  · exact tableInv_of_permuted (by decide : (0x22 : BitVec 8) ≠ microAddress .fill) (permuted rfl)
      fun _ h => absurd h hpasses

/-! ### Commands (30_encoding.md R92) -/

/-- A command that latches nothing of the table and does not configure keeps the invariant. -/
theorem acceptance_keeps_tableInv {o : Byte} {f : Option BlockError} {latch : State → State}
    (h : acceptance s o f latch k = .next t) (ht : TableInv s) (hl : TableKept s (latch (accepted s)))
    (hc : (latch (accepted s)).status.configured = true → s.status.configured = true)
    (hk : OffBuilder (microAddress k)) : TableInv t := by
  rcases acceptance_eq_next h with ⟨-, rfl⟩ | ⟨-, e, -, rfl⟩ | ⟨-, -, rfl⟩
  · exact ht
  · exact ht.of_tableKept ⟨rfl, rfl, rfl, rfl⟩ id (.inr offBuilder_idle)
  · exact ht.of_tableKept hl hc (.inr hk)

theorem exec_command_keeps_tableInv (hi : i ∈ commands) (ht : TableInv s) (h : exec i s = .next t) : TableInv t := by
  simp only [commands, List.mem_cons, List.not_mem_nil, or_false] at hi
  have off : ∀ {k : Instr}, k ≠ .fill → k ≠ .shuf → OffBuilder (microAddress k) := offBuilder_microAddress
  rcases hi with rfl | rfl | rfl | rfl | rfl
  · rw [exec_init, execInit] at h
    exact acceptance_keeps_tableInv h ht ⟨rfl, rfl, rfl, rfl⟩ (fun h => Bool.noConfusion h) (off (by decide) (by decide))
  · rw [exec_hash, execHash] at h
    exact acceptance_keeps_tableInv h ht ⟨rfl, rfl, rfl, rfl⟩ id (off (by decide) (by decide))
  · rw [exec_prehash, execPrehash] at h
    exact acceptance_keeps_tableInv h ht ⟨rfl, rfl, rfl, rfl⟩ id (off (by decide) (by decide))
  · rw [exec_posthash, execPosthash] at h
    exact acceptance_keeps_tableInv h ht ⟨rfl, rfl, rfl, rfl⟩ id (off (by decide) (by decide))
  · rw [exec_hashbatch, execHashbatch] at h
    exact acceptance_keeps_tableInv h ht ⟨rfl, rfl, rfl, rfl⟩ id (off (by decide) (by decide))

theorem commandWrite_keeps_tableInv {w : Word} (ht : TableInv s) (h : commandWrite s w = .next t) : TableInv t := by
  unfold commandWrite at h
  split at h
  · next hi => exact exec_command_keeps_tableInv (mem_commands_of_decodeCommand hi) ht h
  · obtain rfl := Host.Outcome.next.inj h
    rcases rejectCommand_cases s with ⟨-, h⟩ | ⟨-, h⟩ <;> rw [h]
    · exact ht
    · exact ht.of_tableKept ⟨rfl, rfl, rfl, rfl⟩ id (.inr offBuilder_idle)

/-! ### A slot -/

theorem exec_keeps_tableInv (hu : decodeUop s.upc = .ok i) (hp : phaseOk i s) (ht : TableInv s)
    (h : exec i s = .next t) : TableInv t := by
  have haddr : s.upc = microAddress i := by rw [microAddress, encode_of_decodeUop hu]
  by_cases hcheck : i = .check
  · subst hcheck
    exact execCheck_keeps_tableInv h
  by_cases hfill : i = .fill
  · subst hfill
    exact execFill_keeps_tableInv hp ht haddr h
  by_cases hshuf : i = .shuf
  · subst hshuf
    exact execShuf_keeps_tableInv hp ht haddr h
  by_cases hcommand : i ∈ commands
  · exact exec_command_keeps_tableInv hcommand ht h
  · exact exec_hashOperation_keeps_tableInv ⟨hcommand, hcheck, hfill, hshuf⟩ hp ht h

theorem uopStep_keeps_tableInv (hs : Sound s) (ht : TableInv s) (h : uopStep s = .next t) : TableInv t := by
  rcases uopStep_eq_next h with ⟨i, hi, h⟩ | ⟨-, rfl⟩
  · have hq := hs.sequencer
    rw [sequencerOk, hi] at hq
    exact exec_keeps_tableInv hi hq.2 ht h
  · exact ht

theorem registerWrite_keeps_tableInv (ht : TableInv s) (a : BitVec 8) (v : Word) : TableInv (registerWrite s a v) := by
  rcases registerWrite_cases s a v with h | ⟨-, q, -, h⟩ <;> rw [h]
  · exact ht
  · rw [csrStore_frame]
    exact ht.of_tableKept ⟨rfl, rfl, rfl, rfl⟩ id (.inl ⟨rfl, rfl⟩)

/-- Settles O46, by the cases of a step: the builder's micro-operations make the table, and nothing else touches it but a
reset, after which nothing is claimed. -/
theorem tableInvariantKept : Obligations.TableInvariantKept := by
  intro s t hs ht h
  have ht' : ∀ host rdata, TableInv { s with host := host, rdata := rdata } := fun _ _ =>
    ht.of_tableKept ⟨rfl, rfl, rfl, rfl⟩ id (.inl ⟨rfl, rfl⟩)
  rcases step_cases h with ⟨host, rdata, h⟩ | ⟨rest, -, rfl⟩ | ⟨rest, a, rfl⟩ | ⟨rest, a, v, -, rfl⟩ | ⟨rest, w, h⟩
    | ⟨rest, rfl⟩
  · exact uopStep_keeps_tableInv (hs.withHost host rdata s.freeReads s.epoch) (ht' host rdata) h
  · exact ht' rest _
  · rw [hostRead_frame]
    exact ht.of_tableKept ⟨rfl, rfl, rfl, rfl⟩ id (.inl ⟨rfl, rfl⟩)
  · exact registerWrite_keeps_tableInv (ht' rest s.rdata) a v
  · exact commandWrite_keeps_tableInv (ht' rest s.rdata) h
  · exact tableInv_of_unconfigured rfl offBuilder_idle

end Sys2Proof.Machine

/-! What is left of a command right after its acceptance (70_reset_and_hazards.md R290): the counts of 40_bytemap_builder.md
R123, 45_hash_sequencer.md R217 and 46_optional_commands.md R230, R233, R236. -/

namespace Sys2Proof.Machine

open Sys2Proof

variable {s t : State} {k : Instr}

/-- An idle block that is busy after a command has accepted it: its checks passed. -/
theorem acceptance_of_started {o : Byte} {f : Option BlockError} {latch : State → State} (hb : s.status.busy = false)
    (h : acceptance s o f latch k = .next t) (ht : t.status.busy = true) :
    f = none ∧ t = ({ latch (accepted s) with cmd := o }).goto k := by
  rcases acceptance_eq_next h with ⟨hbusy, -⟩ | ⟨-, e, -, rfl⟩ | ⟨-, hf, rfl⟩
  · exact absurd (hb.symm.trans hbusy) (by decide)
  · exact absurd ht (by simp [statusRaised])
  · exact ⟨hf, rfl⟩

theorem stepsLeft_goto (s : State) (hk : k ∉ commands) : stepsLeft (s.goto k) = stepsFrom k (s.goto k) := by
  rw [stepsLeft, goto_upc, decodeUop_microAddress hk]

/-! The equations of `stepsFrom` at the three micro-operations a command starts at. -/

theorem stepsFrom_hinit (s : State) : stepsFrom .hinit s = 1 + pass1Steps s s.n.toNat := rfl

theorem stepsFrom_resume (s : State) : stepsFrom .resume s = 1 + pass1Steps s (s.n.toNat - s.m.toNat) := rfl

theorem stepsFrom_check_eq (s : State) :
    stepsFrom .check s = 1 + if (checkError s).isSome then 0 else buildSteps (mapSizeOf s.cMb) s.cPas := rfl

/-- The passes of a hash command that is not PREHASH, from `count` positions of pass 1 on. -/
theorem pass1Steps_of_ne_prehash (hc : s.cmd ≠ 0x03) (count : Nat) :
    pass1Steps s count = count * (6 * s.nb.toNat + 1)
      + (s.n.toNat * (29 * s.nb.toNat + 1) + 30 * s.hashSize.toNat * s.nb.toNat) := by
  rw [pass1Steps, if_neg hc, pass2Steps, pass3Steps]

/-- The same for one context: FastStep takes 7 micro-operations a position, Step and its LDIN and ADV 30. -/
theorem pass1Steps_of_single (hc : s.cmd ≠ 0x03) (hn : s.nb = 1) (count : Nat) :
    pass1Steps s count = 7 * count + 30 * s.n.toNat + 30 * s.hashSize.toNat := by
  have one : s.nb.toNat = 1 := congrArg BitVec.toNat hn
  rw [pass1Steps_of_ne_prehash hc, one]
  omega

/-- PREHASH stops after pass 1 (46_optional_commands.md R230). -/
theorem pass1Steps_of_prehash (hc : s.cmd = 0x03) (hn : s.nb = 1) (count : Nat) : pass1Steps s count = 7 * count := by
  have one : s.nb.toNat = 1 := congrArg BitVec.toNat hn
  rw [pass1Steps, if_pos hc, one]
  omega

theorem stepsLeft_hash (hb : s.status.busy = false) (h : exec .hash s = .next t) (ht : t.status.busy = true) :
    stepsLeft t = 1 + 37 * s.len.toNat + 30 * s.hashSize.toNat := by
  rw [exec_hash, execHash] at h
  obtain ⟨-, rfl⟩ := acceptance_of_started hb h ht
  rw [stepsLeft_goto _ (by decide), stepsFrom_hinit, pass1Steps_of_single (by decide : (0x02 : Byte) ≠ 0x03) rfl]
  change 1 + (7 * s.len.toNat + 30 * s.len.toNat + 30 * s.hashSize.toNat) = _
  omega

theorem stepsLeft_prehash (hb : s.status.busy = false) (h : exec .prehash s = .next t) (ht : t.status.busy = true) :
    stepsLeft t = 1 + 7 * s.plen.toNat := by
  rw [exec_prehash, execPrehash] at h
  obtain ⟨-, rfl⟩ := acceptance_of_started hb h ht
  rw [stepsLeft_goto _ (by decide), stepsFrom_hinit, pass1Steps_of_prehash rfl rfl]
  rfl

theorem stepsLeft_posthash (hb : s.status.busy = false) (h : exec .posthash s = .next t) (ht : t.status.busy = true) :
    stepsLeft t = 1 + 7 * (s.len.toNat - s.plen.toNat) + 30 * s.len.toNat + 30 * s.hashSize.toNat := by
  rw [exec_posthash, execPosthash] at h
  obtain ⟨-, rfl⟩ := acceptance_of_started hb h ht
  rw [stepsLeft_goto _ (by decide), stepsFrom_resume, pass1Steps_of_single (by decide : (0x04 : Byte) ≠ 0x03) rfl]
  change 1 + (7 * (s.len.toNat - s.plen.toNat) + 30 * s.len.toNat + 30 * s.hashSize.toNat) = _
  omega

theorem stepsLeft_hashbatch (hb : s.status.busy = false) (h : exec .hashbatch s = .next t) (ht : t.status.busy = true) :
    stepsLeft t = 1 + (s.plen.toNat + s.len.toNat) * (6 * s.nbatch.toNat + 1)
      + (s.plen.toNat + s.len.toNat) * (29 * s.nbatch.toNat + 1) + 30 * s.hashSize.toNat * s.nbatch.toNat := by
  rw [exec_hashbatch, execHashbatch] at h
  obtain ⟨hf, rfl⟩ := acceptance_of_started hb h ht
  obtain ⟨-, -, ⟨-, -, hsum⟩, -⟩ := hashbatchError_eq_none hf
  have total : (s.plen + s.len).toNat = s.plen.toNat + s.len.toNat := by
    rw [BitVec.toNat_add, Nat.mod_eq_of_lt hsum]
  rw [stepsLeft_goto _ (by decide), stepsFrom_hinit, pass1Steps_of_ne_prehash (by decide : (0x05 : Byte) ≠ 0x03), ← total]
  change 1 + ((s.plen + s.len).toNat * (6 * s.nbatch.toNat + 1)
    + ((s.plen + s.len).toNat * (29 * s.nbatch.toNat + 1) + 30 * s.hashSize.toNat * s.nbatch.toNat)) = _
  ring

/-- CHECK ends INIT if it finds an error; else the builder follows (40_bytemap_builder.md R121, R123). -/
theorem stepsFrom_check (s : State) :
    stepsFrom .check s = if 1 ≤ s.cHsz.toNat ∧ s.cHsz.toNat ≤ s.inst.hsCap ∧ 8 ≤ s.cMb.toNat ∧ s.cMb.toNat ≤ 34
        ∧ s.cMb.toNat ≤ s.inst.bmCapBits
      then 1 + 2 ^ s.cMb.toNat * (1 + s.cPas.toNat) else 1 := by
  simp only [← checkError_eq_none_iff, stepsFrom_check_eq]
  cases hc : checkError s with
  | some e => simp
  | none =>
    obtain ⟨-, -, -, h34, -⟩ := checkError_eq_none_iff.mp hc
    rw [if_pos rfl, buildSteps, mapSizeOf_toNat h34]
    simp only [Option.isSome_none, Bool.false_eq_true, if_false]
    ring

theorem stepsLeft_init (hb : s.status.busy = false) (h : exec .init s = .next t) :
    stepsLeft t = if 1 ≤ s.argHashsize.toNat ∧ s.argHashsize.toNat ≤ s.inst.hsCap ∧ 8 ≤ s.argMapbits.toNat
        ∧ s.argMapbits.toNat ≤ 34 ∧ s.argMapbits.toNat ≤ s.inst.bmCapBits
      then 1 + 2 ^ s.argMapbits.toNat * (1 + s.argPasses.toNat) else 1 := by
  rw [exec_init, execInit, acceptance_of_accepted hb] at h
  obtain rfl := Host.Outcome.next.inj h
  rw [stepsLeft_goto _ (by decide)]
  exact stepsFrom_check _

/-- Settles O50: after acceptance the block is at the first micro-operation with its latches loaded, and `stepsFrom` counts
from there. -/
theorem commandCounts : Obligations.CommandCounts := fun _ _ hb =>
  ⟨stepsLeft_hash hb, stepsLeft_prehash hb, stepsLeft_posthash hb, stepsLeft_hashbatch hb, stepsLeft_init hb⟩

end Sys2Proof.Machine

/-! INIT builds the table of its arguments (40_bytemap_builder.md R120 to R128). The micro-operations of a run are compared
with the loops of `buildTable`: `Filling`, `Shuffling` and `Built` say where the run is, one lemma per micro-operation says
where it goes on to, and the inductions over the fill, one pass and all passes follow the recursion of the functions. -/

namespace Sys2Proof.Machine

open Sys2Proof

variable {s t u : State} {x : Word × List Byte} {k n ps i : Nat}

/-! ### Runs -/

theorem runSteps_succ_of_step (h : step s = .next u) (n : Nat) : runSteps (n + 1) s = runSteps n u := by
  rw [runSteps, h]

theorem runSteps_add_of (h : runSteps k s = .next u) (n : Nat) : runSteps (k + n) s = runSteps n u := by
  induction k generalizing s with
  | zero =>
    obtain rfl := Host.Outcome.next.inj h
    rw [Nat.zero_add]
  | succ k ih =>
    rw [Nat.succ_add, runSteps]
    rw [runSteps] at h
    cases hs : step s with
    | next v =>
      rw [hs] at h
      exact ih h
    | fault f =>
      rw [hs] at h
      cases h
    | refused r =>
      rw [hs] at h
      cases h

/-- A silent host leaves the slot to the operation at `upc`. -/
theorem step_eq_exec (hh : s.host = []) {o : Instr} (hu : s.upc = microAddress o) (ho : o ∉ commands) :
    step s = exec o s :=
  (stepRunsMicroOperationAtUpc s o (hu ▸ decodeUop_microAddress ho)).1 hh

/-! ### Counters as words -/

theorem toNat_ofNat_of_lt {w : Word} (h : n < w.toNat) : (BitVec.ofNat 64 n).toNat = n := by
  rw [BitVec.toNat_ofNat, Nat.mod_eq_of_lt (Nat.lt_trans h w.isLt)]

theorem ofNat_succ_eq_iff {w : Word} (h : n < w.toNat) : BitVec.ofNat 64 n + 1 = w ↔ n + 1 = w.toNat := by
  have hw := w.isLt
  have one : (1 : Word).toNat = 1 := rfl
  rw [← BitVec.toNat_inj, BitVec.toNat_add, toNat_ofNat_of_lt h, one]
  omega

theorem ofNat_add_one (n : Nat) : BitVec.ofNat 64 n + 1 = BitVec.ofNat 64 (n + 1) := (BitVec.ofNat_add n 1).symm

theorem ofNat_ne_of_lt {w : Word} (h : n < w.toNat) : BitVec.ofNat 64 n ≠ w := by
  rintro rfl
  rw [BitVec.toNat_ofNat] at h
  exact absurd h (Nat.not_lt.mpr (Nat.mod_le n _))

/-! ### The bytes of a buffer as a list -/

theorem bytesOf_getElem (s : State) (sp : ByteSpace) {a : Nat} (h : a < (bytesOf s sp n).length) :
    (bytesOf s sp n)[a] = s.peekByte sp a := by simp [bytesOf]

@[simp] theorem bytesOf_length (s : State) (sp : ByteSpace) (n : Nat) : (bytesOf s sp n).length = n := by simp [bytesOf]

theorem bytesOf_getD (s : State) (sp : ByteSpace) {a : Nat} (h : a < n) :
    (bytesOf s sp n).getD a 0 = s.peekByte sp a := by
  rw [List.getD_eq_getElem _ _ (by simpa using h), bytesOf_getElem]

theorem bytesOf_eq_filledTable : bytesOf s .bm n = filledTable n ↔ tableFilled s n := by
  rw [bytesOf, filledTable, List.map_inj_left]
  exact forall_congr' fun a => by rw [List.mem_range]

/-- An exchange of two cells of the table is `swapEntries` of its list of bytes (R127). -/
theorem bytesOf_exchanged {a b : Nat} (ha : a < n) (hb : b < n) (hfirst : t.peekByte .bm a = s.peekByte .bm b)
    (hsecond : t.peekByte .bm b = s.peekByte .bm a)
    (hothers : ∀ c, ¬(c = a ∨ c = b) → t.peekByte .bm c = s.peekByte .bm c) :
    bytesOf t .bm n = swapEntries (bytesOf s .bm n) a b := by
  refine List.ext_getElem (by simp [swapEntries]) fun c hc _ => ?_
  simp only [swapEntries, List.getElem_set, bytesOf_getElem, bytesOf_getD s .bm ha, bytesOf_getD s .bm hb]
  split
  · next h => rw [← h, hsecond]
  · next hcb =>
    split
    · next h => rw [← h, hfirst]
    · next hca => exact hothers c fun h => h.elim (fun e => hca e.symm) fun e => hcb e.symm

theorem configOk.mapSize_pos (h : configOk s) : 0 < s.mapSize.toNat := Nat.zero_lt_of_lt h.mask_lt_mapSize

/-! ### Where a run of the builder is -/

/-- From `u` to `t` nothing has changed but what the builder works on: STATUS, `upc`, its counters, its rolling state and the
table (10_state.md R25, R26). -/
def BuilderMove (u t : State) : Prop :=
  ∃ status upc i ps r j bm, t = { u with status := status, upc := upc, i := i, ps := ps, r := r, j := j, bm := bm }

theorem BuilderMove.refl (u : State) : BuilderMove u u := ⟨_, _, _, _, _, _, _, rfl⟩

theorem BuilderMove.trans {v : State} (h : BuilderMove u t) (h' : BuilderMove t v) : BuilderMove u v := by
  obtain ⟨_, _, _, _, _, _, _, rfl⟩ := h
  obtain ⟨_, _, _, _, _, _, _, rfl⟩ := h'
  exact ⟨_, _, _, _, _, _, _, rfl⟩

/-- The builder changes neither the constants nor the configuration, and is all that runs. -/
theorem BuilderMove.kept (h : BuilderMove u t) :
    t.inst = u.inst ∧ t.mapSize = u.mapSize ∧ t.mask = u.mask ∧ t.passes = u.passes ∧ t.host = u.host := by
  obtain ⟨_, _, _, _, _, _, _, rfl⟩ := h
  exact ⟨rfl, rfl, rfl, rfl, rfl⟩

/-- The builder, started in `u`, holds the rolling state `x.1` and the first `n` cells `x.2` of the table in `t`; nothing else
has changed. -/
structure BuildState (u : State) (n : Nat) (x : Word × List Byte) (t : State) : Prop where
  move : BuilderMove u t
  rolling : t.r = x.1
  table : bytesOf t .bm n = x.2
  others : ∀ sp a, ¬(sp = .bm ∧ a < n) → t.peekByte sp a = u.peekByte sp a

/-- FILL is next, cell `k` (R124). -/
structure Filling (u : State) (k : Nat) (t : State) : Prop extends BuildState u k (u.r, filledTable k) t where
  upc : t.upc = microAddress .fill
  position : t.i = BitVec.ofNat 64 k
  pass : t.ps = 0
  status : t.status = u.status

/-- SHUF is next, position `i` of pass `ps` (R127). -/
structure Shuffling (u : State) (ps i : Nat) (x : Word × List Byte) (t : State) : Prop
    extends BuildState u u.mapSize.toNat x t where
  upc : t.upc = microAddress .shuf
  position : t.i = BitVec.ofNat 64 i
  pass : t.ps = BitVec.ofNat 64 ps
  status : t.status = u.status

/-- INIT has ended (R122). -/
structure Built (u : State) (x : Word × List Byte) (t : State) : Prop extends BuildState u u.mapSize.toNat x t where
  upc : t.upc = 0
  status : t.status = statusConfigured u.status

/-- All passes before pass `ps` are done. -/
def PassReached (u : State) (ps : Nat) (x : Word × List Byte) (t : State) : Prop :=
  if ps = u.passes.toNat then Built u x t else Shuffling u ps 0 x t

/-- All positions before `i` of pass `ps` are done. -/
def PositionReached (u : State) (ps i : Nat) (x : Word × List Byte) (t : State) : Prop :=
  if i = u.mapSize.toNat then PassReached u (ps + 1) x t else Shuffling u ps i x t

/-- All cells before cell `k` are filled. -/
def FillReached (u : State) (k : Nat) (t : State) : Prop :=
  if k = u.mapSize.toNat then PassReached u 0 (u.r, filledTable u.mapSize.toNat) t else Filling u k t

/-! ### The fill (R124) -/

theorem Filling.filled (h : Filling u k t) (hw : byteWritten t s .bm k (BitVec.ofNat 8 (k % 256)))
    (hm : BuilderMove t s) (hr : s.r = t.r) : BuildState u (k + 1) (u.r, filledTable (k + 1)) s where
  move := h.move.trans hm
  rolling := hr.trans h.rolling
  table := bytesOf_eq_filledTable.mpr (tableFilled_succ (bytesOf_eq_filledTable.mp h.table) hw)
  others sp a hn := by
    rw [hw.1, if_neg fun e => hn ⟨e.1, by omega⟩]
    exact h.others sp a fun e => hn ⟨e.1, by omega⟩

/-- One FILL: the next cell is filled, or the last was and the first pass is reached. -/
theorem Filling.step (hc : configOk u) (hh : u.host = []) (hk : k < u.mapSize.toNat) (h : Filling u k t) :
    ∃ t', Machine.step t = .next t' ∧ FillReached u (k + 1) t' := by
  obtain ⟨hinst, hsize, -, hpasses, hhost⟩ := h.move.kept
  have hi : t.i.toNat = k := by rw [h.position, toNat_ofNat_of_lt hk]
  have hcell : t.i.toNat < 2 ^ t.inst.bmCapBits := by
    rw [hi, hinst]
    exact Nat.lt_of_lt_of_le hk hc.mapSize_le
  obtain ⟨t', run, written, hnext⟩ := fillWritesOneCell t hcell
  rw [hi] at written
  refine ⟨t', (step_eq_exec (hhost.trans hh) h.upc (by decide)).trans run, ?_⟩
  have hsucc : (t.i + 1).toNat = k + 1 := by bv_omega
  have more : (t.i + 1).toNat < t.mapSize.toNat ↔ k + 1 ≠ u.mapSize.toNat := by
    rw [hsucc, hsize]
    omega
  have unshuffled : t.passes = 0 ↔ 0 = u.passes.toNat := by rw [hpasses, eq_comm, ← BitVec.toNat_inj]; rfl
  unfold FillReached PassReached
  split_ifs with hlast hnone
  · rw [if_neg fun e => more.mp e hlast, if_pos (unshuffled.mpr hnone)] at hnext
    have filled := h.filled written ⟨_, _, _, _, _, _, _, hnext⟩ (congrArg State.r hnext :)
    rw [hlast] at filled
    exact ⟨filled, congrArg State.upc hnext, (congrArg State.status hnext).trans (congrArg statusConfigured h.status)⟩
  · rw [if_neg fun e => more.mp e hlast, if_neg (mt unshuffled.mp hnone)] at hnext
    have filled := h.filled written ⟨_, _, _, _, _, _, _, hnext⟩ (congrArg State.r hnext :)
    rw [hlast] at filled
    exact ⟨filled, congrArg State.upc hnext, congrArg State.i hnext, (congrArg State.ps hnext).trans h.pass,
      (congrArg State.status hnext).trans h.status⟩
  · rw [if_pos (more.mpr hlast)] at hnext
    have filled := h.filled written ⟨_, _, _, _, _, _, _, hnext⟩ (congrArg State.r hnext :)
    exact ⟨filled, congrArg State.upc hnext,
      (congrArg State.i hnext).trans ((congrArg (· + 1) h.position).trans (ofNat_add_one k)),
      (congrArg State.ps hnext).trans h.pass, (congrArg State.status hnext).trans h.status⟩

/-- The whole fill: the first loop of R123. -/
theorem run_fill (hc : configOk u) (hh : u.host = []) : ∀ (count k : Nat) {t : State}, k + count = u.mapSize.toNat →
    FillReached u k t →
    ∃ t', runSteps count t = .next t' ∧ PassReached u 0 (u.r, filledTable u.mapSize.toNat) t'
  | 0, k, t, hk, h => ⟨t, rfl, by rwa [FillReached, if_pos (by omega)] at h⟩
  | count + 1, k, t, hk, h => by
    rw [FillReached, if_neg (by omega)] at h
    obtain ⟨v, hv, hreached⟩ := h.step hc hh (by omega)
    rw [runSteps_succ_of_step hv]
    exact run_fill hc hh count (k + 1) (by omega) hreached

/-! ### The shuffle (R127) -/

/-- SHUF computes what `shuffleAt` does: the stepping function reads the table at addresses at most `MK` alone (R125). -/
theorem Shuffling.shufF_eq (hc : configOk u) (h : Shuffling u ps i x t) :
    shufF t.inst.shuf t.r t.i t.ps (fun a => t.peekByte .bm a.toNat) t.mask =
      shufF u.inst.shuf x.1 (BitVec.ofNat 64 i) (BitVec.ofNat 64 ps) (fun a => x.2.getD a.toNat 0) u.mask := by
  obtain ⟨hinst, -, hmask, -, -⟩ := h.move.kept
  rw [hinst, hmask, h.rolling, h.position, h.pass]
  refine shufF_congr _ _ _ _ fun a ha => ?_
  rw [← h.table, bytesOf_getD t .bm (Nat.lt_of_le_of_lt ha hc.mask_lt_mapSize)]

theorem BuildState.exchanged {a b : Nat} {r : Word} (h : BuildState u n x t) (ha : a < n) (hb : b < n)
    (hfirst : s.peekByte .bm a = t.peekByte .bm b) (hsecond : s.peekByte .bm b = t.peekByte .bm a)
    (hothers : ∀ sp c, ¬(sp = .bm ∧ (c = a ∨ c = b)) → s.peekByte sp c = t.peekByte sp c) (hm : BuilderMove t s)
    (hr : s.r = r) : BuildState u n (r, swapEntries x.2 a b) s where
  move := h.move.trans hm
  rolling := hr
  table := by
    rw [← h.table]
    exact bytesOf_exchanged ha hb hfirst hsecond fun c hc => hothers .bm c fun e => hc e.2
  others sp c hn := by
    rw [hothers sp c fun e => hn ⟨e.1, by rcases e.2 with rfl | rfl <;> assumption⟩]
    exact h.others sp c hn

/-- One SHUF: the next position, or the last was done and the next pass is reached. -/
theorem Shuffling.step (hc : configOk u) (hh : u.host = []) (hi : i < u.mapSize.toNat) (hp : ps < u.passes.toNat)
    (h : Shuffling u ps i x t) :
    ∃ t', Machine.step t = .next t' ∧ PositionReached u ps (i + 1) (shuffleAt u.inst.shuf u.mask ps i x) t' := by
  obtain ⟨hinst, hsize, hmask, hpasses, hhost⟩ := h.move.kept
  have hti : t.i.toNat = i := by rw [h.position, toNat_ofNat_of_lt hi]
  have hcell : t.i.toNat < 2 ^ t.inst.bmCapBits := by
    rw [hti, hinst]
    exact Nat.lt_of_lt_of_le hi hc.mapSize_le
  have hmk : t.mask.toNat < 2 ^ t.inst.bmCapBits := by
    rw [hmask, hinst]
    exact hc.mask_lt
  obtain ⟨t', run, hfirst, hsecond, hothers, hnext⟩ := shuffleExchangesTwoCells t hcell hmk
  rw [h.shufF_eq hc] at hfirst hsecond hothers hnext
  rw [hti] at hfirst hsecond hothers
  refine ⟨t', (step_eq_exec (hhost.trans hh) h.upc (by decide)).trans run, ?_⟩
  have hj := Nat.lt_of_le_of_lt (shufF_index_le u.inst.shuf x.1 (BitVec.ofNat 64 i) (BitVec.ofNat 64 ps)
    (fun a => x.2.getD a.toNat 0) u.mask) hc.mask_lt_mapSize
  have shuffled : BuilderMove t t' → t'.r = (shuffleAt u.inst.shuf u.mask ps i x).1 →
      BuildState u u.mapSize.toNat (shuffleAt u.inst.shuf u.mask ps i x) t' :=
    h.toBuildState.exchanged hi hj hfirst hsecond hothers
  have wrap : t.i + 1 = t.mapSize ↔ i + 1 = u.mapSize.toNat := by
    rw [h.position, hsize]
    exact ofNat_succ_eq_iff hi
  have last : t.ps + 1 = t.passes ↔ ps + 1 = u.passes.toNat := by
    rw [h.pass, hpasses]
    exact ofNat_succ_eq_iff hp
  have within : t.ps ≠ t.passes := by
    rw [h.pass, hpasses]
    exact ofNat_ne_of_lt hp
  unfold PositionReached PassReached
  split_ifs with hend hdone
  · rw [if_pos (wrap.mpr hend), if_pos (wrap.mpr hend), if_pos (last.mpr hdone)] at hnext
    exact ⟨shuffled ⟨_, _, _, _, _, _, _, hnext⟩ (congrArg State.r hnext :), congrArg State.upc hnext,
      (congrArg State.status hnext).trans (congrArg statusConfigured h.status)⟩
  · rw [if_pos (wrap.mpr hend), if_pos (wrap.mpr hend), if_neg (mt last.mp hdone)] at hnext
    exact ⟨shuffled ⟨_, _, _, _, _, _, _, hnext⟩ (congrArg State.r hnext :), congrArg State.upc hnext,
      congrArg State.i hnext, (congrArg State.ps hnext).trans ((congrArg (· + 1) h.pass).trans (ofNat_add_one ps)),
      (congrArg State.status hnext).trans h.status⟩
  · rw [if_neg (mt wrap.mp hend), if_neg (mt wrap.mp hend), if_neg within] at hnext
    exact ⟨shuffled ⟨_, _, _, _, _, _, _, hnext⟩ (congrArg State.r hnext :), congrArg State.upc hnext,
      (congrArg State.i hnext).trans ((congrArg (· + 1) h.position).trans (ofNat_add_one i)),
      (congrArg State.ps hnext).trans h.pass, (congrArg State.status hnext).trans h.status⟩

/-- One pass: the inner loop of R123. -/
theorem run_shufflePass (hc : configOk u) (hh : u.host = []) (hp : ps < u.passes.toNat) :
    ∀ (count i : Nat) (x : Word × List Byte) {t : State}, i + count = u.mapSize.toNat → PositionReached u ps i x t →
      ∃ t', runSteps count t = .next t'
        ∧ PassReached u (ps + 1) (shufflePass u.inst.shuf u.mask ps count i x) t'
  | 0, i, x, t, hi, h => ⟨t, rfl, by rwa [PositionReached, if_pos (by omega)] at h⟩
  | count + 1, i, x, t, hi, h => by
    rw [PositionReached, if_neg (by omega)] at h
    obtain ⟨v, hv, hreached⟩ := h.step hc hh (by omega) hp
    rw [runSteps_succ_of_step hv]
    exact run_shufflePass hc hh hp count (i + 1) _ (by omega) hreached

/-- All passes: the outer loop of R123. -/
theorem run_shufflePasses (hc : configOk u) (hh : u.host = []) :
    ∀ (count ps : Nat) (x : Word × List Byte) {t : State}, ps + count = u.passes.toNat → PassReached u ps x t →
      ∃ t', runSteps (count * u.mapSize.toNat) t = .next t'
        ∧ Built u (shufflePasses u.inst.shuf u.mask u.mapSize.toNat count ps x) t'
  | 0, ps, x, t, hp, h => ⟨t, by rw [Nat.zero_mul]; rfl, by rwa [PassReached, if_pos (by omega)] at h⟩
  | count + 1, ps, x, t, hp, h => by
    have start : PositionReached u ps 0 x t := by
      rw [PassReached, if_neg (by omega)] at h
      rwa [PositionReached, if_neg hc.mapSize_pos.ne]
    obtain ⟨v, hv, hreached⟩ := run_shufflePass hc hh (by omega) u.mapSize.toNat 0 x (Nat.zero_add _) start
    rw [Nat.succ_mul, Nat.add_comm, runSteps_add_of hv]
    exact run_shufflePasses hc hh count (ps + 1) _ (by omega) hreached

/-! ### The whole of INIT (R120, R122, R123) -/

/-- From a state at the first FILL on, the builder builds the table. -/
theorem run_build (hc : configOk u) (hh : u.host = []) (hu : u.upc = microAddress .fill) (hi : u.i = 0) (hps : u.ps = 0) :
    ∃ t, runSteps (u.mapSize.toNat + u.passes.toNat * u.mapSize.toNat) u = .next t
      ∧ Built u (shufflePasses u.inst.shuf u.mask u.mapSize.toNat u.passes.toNat 0 (u.r, filledTable u.mapSize.toNat)) t := by
  have start : FillReached u 0 u := by
    rw [FillReached, if_neg hc.mapSize_pos.ne]
    exact ⟨⟨.refl u, rfl, rfl, fun _ _ _ => rfl⟩, hu, hi, hps, rfl⟩
  obtain ⟨v, hv, hreached⟩ := run_fill hc hh u.mapSize.toNat 0 (Nat.zero_add _) start
  rw [runSteps_add_of hv]
  exact run_shufflePasses hc hh u.passes.toNat 0 _ (Nat.zero_add _) hreached

/-- The state INIT's acceptance and CHECK lead to (R120, R121), the host silent. -/
def buildStart (s : State) : State :=
  { s with
    host := [], status := busyStatus false, cmd := 0x01
    cSeed := s.argSeed, cMb := s.argMapbits, cHsz := s.argHashsize, cPas := s.argPasses
    seed := s.argSeed, mapSizeBits := s.argMapbits, hashSize := s.argHashsize, passes := s.argPasses
    mapSize := BitVec.ofNat 64 (2 ^ s.argMapbits.toNat), mask := BitVec.ofNat 64 (2 ^ s.argMapbits.toNat - 1)
    r := s.argSeed, i := 0, ps := 0
    upc := microAddress .fill }

/-- The argument registers hold what CHECK accepts (60_exceptions.md R252). -/
def ArgumentsLegal (s : State) : Prop :=
  1 ≤ s.argHashsize.toNat ∧ s.argHashsize.toNat ≤ s.inst.hsCap ∧ 8 ≤ s.argMapbits.toNat ∧ s.argMapbits.toNat ≤ 34
    ∧ s.argMapbits.toNat ≤ s.inst.bmCapBits

/-- The write of `CMD` and CHECK. -/
theorem run_init_check (hb : s.status.busy = false) (hh : s.host = [.wr 0x00 0x01]) (ha : ArgumentsLegal s) :
    runSteps 2 s = .next (buildStart s) := by
  obtain ⟨h1, hcap, h8, h34, hbits⟩ := ha
  have accept := initIsAccepted { s with host := [] } hb
  rw [← stepRunsCommandWritten s [] 0x01 .init hh rfl] at accept
  rw [runSteps_succ_of_step accept, runSteps_succ_of_step ((step_eq_exec rfl rfl (by decide)).trans
    (checkLatchesTheConfiguration _ h1 hcap h8 h34 hbits))]
  rfl

theorem buildStart_mapSize (h34 : s.argMapbits.toNat ≤ 34) : (buildStart s).mapSize.toNat = 2 ^ s.argMapbits.toNat := by
  have hstart : (buildStart s).mapSize = mapSizeOf s.argMapbits := (mapSizeOf_eq_ofNat s.argMapbits).symm
  rw [hstart, mapSizeOf_toNat h34]

theorem configOk_buildStart (ha : ArgumentsLegal s) : configOk (buildStart s) := by
  obtain ⟨h1, hcap, h8, h34, hbits⟩ := ha
  have hmask : (buildStart s).mask = (buildStart s).mapSize - 1 := by
    change BitVec.ofNat 64 (2 ^ s.argMapbits.toNat - 1) = BitVec.ofNat 64 (2 ^ s.argMapbits.toNat) - 1
    rw [← mapSizeOf_eq_ofNat, mapSizeOf_sub_one_eq_ofNat]
  exact ⟨h8, h34, hbits, buildStart_mapSize h34, hmask, h1, hcap⟩

/-- Settles O51: acceptance and CHECK lead to the first FILL, from where the run follows the loops of `buildTable`. -/
theorem initBuildsTheTable : Obligations.InitBuildsTheTable := by
  intro s _ hb hh h1 hcap h8 h34 hbits
  have legal : ArgumentsLegal s := ⟨h1, hcap, h8, h34, hbits⟩
  have hconf := configOk_buildStart legal
  have hsize := buildStart_mapSize h34
  obtain ⟨t, run, built⟩ := run_build hconf rfl rfl rfl rfl
  have steps : 1 + (1 + 2 ^ s.argMapbits.toNat * (1 + s.argPasses.toNat))
      = 2 + ((buildStart s).mapSize.toNat + (buildStart s).passes.toNat * (buildStart s).mapSize.toNat) := by
    rw [hsize]
    change _ = 2 + (_ + s.argPasses.toNat * _)
    ring
  have hmask : (buildStart s).mask.toNat = 2 ^ s.argMapbits.toNat - 1 := hconf.mask_toNat
  have table := built.table
  have others := built.others
  rw [hsize] at table others
  have same : ∀ sp a, (buildStart s).peekByte sp a = s.peekByte sp a := peekByte_of_memories rfl rfl rfl rfl
  have done : t.status = doneStatus := built.status
  refine ⟨t, ?_, done, ?_, built.upc, ?_⟩
  · rw [steps, runSteps_add_of (run_init_check hb hh legal), run]
  · rw [done]
    rfl
  · obtain ⟨_, _, _, _, _, _, _, rfl⟩ := built.move
    exact ⟨rfl, rfl, rfl, rfl, hsize, hmask, table, fun sp a hn => (others sp a hn).trans (same sp a), rfl,
      rfl, rfl, rfl, rfl, rfl, rfl, rfl, rfl, rfl⟩

end Sys2Proof.Machine

/-! The table read `B(v)` and the rotation of `s1, s2, s3` (41_lookup_and_rotation.md R140, R142). -/

namespace Sys2Proof.Machine

open Sys2Proof

variable {s : State} {c : Ctx} {v w : Word}

/-! ### The probe (R140) -/

theorem configOk.probeAddress_lt (h : configOk s) (v : Word) : probeAddress s v < 2 ^ s.inst.bmCapBits :=
  Nat.lt_of_le_of_lt (probeAddress_le s v) h.mask_lt

theorem configOk.probeAddress_eq_mod_two_pow (h : configOk s) (v : Word) :
    probeAddress s v = v.toNat % 2 ^ s.mapSizeBits.toNat := by
  obtain ⟨-, -, -, hsize, -⟩ := id h
  rw [h.probeAddress_eq, hsize]

theorem probe_congr (h : probeAddress s w = probeAddress s v) : probe s w = probe s v := by
  rw [probe, probe, h]

/-- Settles O21: the mask keeps the low `MAPSIZEBITS` bits, and the address is all that a probe takes of its operand. -/
theorem probeReadsTheMaskedCell : Obligations.ProbeReadsTheMaskedCell := by
  intro s hs v
  have address := hs.probeAddress_eq_mod_two_pow
  have inside : v.toNat % 2 ^ s.mapSizeBits.toNat < 2 ^ s.inst.bmCapBits := address v ▸ hs.probeAddress_lt v
  refine ⟨address v, inside, probe_of hs.mask_lt v, tableOf_lt s v, fun w same => probe_congr ?_⟩
  rw [address w, address v, same]

/-! ### The rotation (R142) -/

theorem execFsRot_of (hc : s.ctxs[s.kc.toNat]? = some c) : execFsRot s = .next (nextContext (s.setCtx (rotate c))) :=
  withCtx_of hc _

theorem execStRot_of (hc : s.ctxs[s.kc.toNat]? = some c) : execStRot s = .next (afterStep (s.setCtx (rotate c))) :=
  withCtx_of hc _

theorem afterStep_of_ph_eq (h : s.ph = 3) : afterStep s = s.goto .redEmit := if_pos h

theorem afterStep_of_ph_ne (h : s.ph ≠ 3) : afterStep s = nextContext s := if_neg h

/-- Settles O22: both rotations write `rotate c`, and pass 3 alone makes ST.ROT go elsewhere than FS.ROT. -/
theorem rotationMovesThreeWords : Obligations.RotationMovesThreeWords := by
  refine ⟨fun s c hc => ?_, rotate_rotate_rotate⟩
  rw [exec_fsRot, exec_stRot, execFsRot_of hc, execStRot_of hc]
  refine ⟨rfl, fun pass2 => ?_, fun pass3 => ?_⟩
  · have other : (s.setCtx (rotate c)).ph ≠ 3 := by simp [pass2]
    rw [afterStep_of_ph_ne other]
    rfl
  · have last : (s.setCtx (rotate c)).ph = 3 := pass3
    rw [afterStep_of_ph_eq last]
    rfl

end Sys2Proof.Machine

/-! FastStep (42_faststep.md R150 to R155). In the middle of a FastStep or a Step the block is in a state `s.atLine d b k`: the
state `s` it started from with another current context, another latch `bt` and another line next. One equation per
micro-operation says which such state it goes on to, so a run is a chain of rewritings, and `MixWritten` says once what the
last of them holds. -/

namespace Sys2Proof.Machine

open Sys2Proof

variable {s t : State} {c d : Ctx} {b : Word} {k : Instr} {y : Mix}

/-! ### The four lines on any state (R151 to R154) -/

theorem execFsB_of (hc : s.ctxs[s.kc.toNat]? = some c) (hm : s.mask.toNat < 2 ^ s.inst.bmCapBits) :
    execFsB s = .next (({ s with bt := tableOf s (c.as ^^^ s.v2) }).goto .fsAs) := by
  rw [execFsB, withCtx_of hc, probe_of hm, orFault_some]

theorem execFsAs_of (hc : s.ctxs[s.kc.toNat]? = some c) :
    execFsAs s = .next ((s.setCtx { c with
      as := (c.as <<< 7) ^^^ (c.as >>> 5) ^^^ (s.v2 <<< 20) ^^^ (s.v2 <<< 16) ^^^ s.v2
        ^^^ (s.bt <<< 20) ^^^ (s.bt <<< 12) ^^^ (s.bt <<< 4) }).goto .fsS1) :=
  wordLine_of hc _ _

theorem execFsS1_of (hc : s.ctxs[s.kc.toNat]? = some c) (hl : s.hasLane s.kc.toNat s.idx.toNat = true) :
    execFsS1 s = .next ((s.setCtx { c with
      s1 := (c.s1 <<< 9) ^^^ (c.s1 >>> 3) ^^^ s.peekLane s.kc.toNat s.idx.toNat }).goto .fsHs) :=
  laneLine_of hc hl _ _

theorem execFsHs_of (hc : s.ctxs[s.kc.toNat]? = some c) (hl : s.hasLane s.kc.toNat s.idx.toNat = true) :
    execFsHs s = .next ((s.pokeLane s.kc.toNat s.idx.toNat (c.s1 ^^^ c.as)).goto .fsRot) := by
  rw [execFsHs, withCtx_of hc, storeLane_of hl]

theorem hasLane_idx (hc : s.ctxs[s.kc.toNat]? = some c) (hi : s.idx.toNat < s.inst.hsCap) :
    s.hasLane s.kc.toNat s.idx.toNat = true :=
  hasLane_iff.mpr ⟨(List.getElem?_eq_some_iff.mp hc).1, hi⟩

theorem laneWritten_goto {q a : Nat} {v : Word} (h : laneWritten s t q a v) (k : Instr) : laneWritten s (t.goto k) q a v := by
  obtain ⟨lanes, bytes, words⟩ := h
  exact ⟨lanes, fun sp a' => (goto_peekByte t k sp a').trans (bytes sp a'), words⟩

/-- Settles O23: each line is its equation, and what FS.HS leaves alone is what a store to a lane leaves alone. -/
theorem fastStepLines : Obligations.FastStepLines := by
  intro s c hc
  refine ⟨execFsB_of hc, execFsAs_of hc, fun hi => execFsS1_of hc (hasLane_idx hc hi), fun hi => ?_⟩
  have hl := hasLane_idx hc hi
  have written := laneWritten_pokeLane (hasLane_iff.mp hl).1 s.idx.toNat (c.s1 ^^^ c.as)
  exact ⟨_, execFsHs_of hc hl, rfl, laneWritten_goto written .fsRot⟩

/-! ### Writes of the current context -/

theorem setCtx_setCtx (s : State) (c d : Ctx) : (s.setCtx c).setCtx d = s.setCtx d := by
  simp only [State.setCtx, List.set_set]

/-- A store to a lane of the current context is a write of that context. -/
theorem pokeLane_kc_eq_setCtx (hc : s.ctxs[s.kc.toNat]? = some c) (a : Nat) (v : Word) :
    s.pokeLane s.kc.toNat a v = s.setCtx { c with hs := cellPut a v c.hs } := by
  simp only [State.pokeLane, State.setCtx, List.modify_eq_set_getElem?, hc]
  rfl

/-- Writing the current context back with one lane stored changes that lane alone, whatever its words are. -/
theorem peekLane_setCtx_cellPut {x : Nat} {v : Word} (hc : s.ctxs[s.kc.toNat]? = some c) (hs : d.hs = cellPut x v c.hs)
    (q a : Nat) : (s.setCtx d).peekLane q a = if q = s.kc.toNat ∧ a = x then v else s.peekLane q a := by
  obtain ⟨hk, -⟩ := List.getElem?_eq_some_iff.mp hc
  have current : (s.setCtx { c with hs := cellPut x v c.hs }).ctxs[s.kc.toNat]? = some { c with hs := cellPut x v c.hs } :=
    List.getElem?_set_self hk
  rw [← setCtx_setCtx s { c with hs := cellPut x v c.hs } d, peekLane_setCtx current hs, ← pokeLane_kc_eq_setCtx hc,
    peekLane_pokeLane hk]

/-! ### A state in the middle of a FastStep or a Step -/

/-- `s` with current context `d`, probe latch `b` and line `k` next. -/
def State.atLine (s : State) (d : Ctx) (b : Word) (k : Instr) : State := (({ s with bt := b }).setCtx d).goto k

theorem atLine_self (hc : s.ctxs[s.kc.toNat]? = some c) (hu : s.upc = microAddress k) : s.atLine c s.bt k = s := by
  obtain ⟨hk, rfl⟩ := List.getElem?_eq_some_iff.mp hc
  simp only [State.atLine, State.setCtx, State.goto, List.set_getElem_self, ← hu]

/-- The current context of `s.atLine d b k` is `d`, as long as `s` has a current context. -/
theorem atLine_ctx (hk : s.kc.toNat < s.nCtx) : (s.atLine d b k).ctxs[(s.atLine d b k).kc.toNat]? = some d :=
  List.getElem?_set_self hk

theorem atLine_probe (b' : Word) (k' : Instr) : ({ s.atLine d b k with bt := b' }).goto k' = s.atLine d b' k' := rfl

theorem atLine_goto (k' : Instr) : (s.atLine d b k).goto k' = s.atLine d b k' := rfl

theorem atLine_setCtx (d' : Ctx) : (s.atLine d b k).setCtx d' = s.atLine d' b k :=
  congrArg (State.goto · k) (setCtx_setCtx { s with bt := b } d d')

theorem tableOf_atLine (v : Word) : tableOf (s.atLine d b k) v = tableOf s v := rfl

theorem peekLane_atLine (hc : s.ctxs[s.kc.toNat]? = some c) (hh : d.hs = c.hs) (q a : Nat) :
    (s.atLine d b k).peekLane q a = s.peekLane q a :=
  peekLane_setCtx (s := { s with bt := b }) hc hh q a

theorem step_atLine (hh : s.host = []) (hk : k ∉ commands) : step (s.atLine d b k) = exec k (s.atLine d b k) :=
  step_eq_exec (s := s.atLine d b k) hh rfl hk

/-! ### The words and the lane a FastStep or a Step leaves (R156, R190) -/

/-- Context `c` with the words of `y` and its lane `q` that of `y`. -/
def Ctx.withMix (c : Ctx) (q : Nat) (y : Mix) : Ctx :=
  { c with as := y.as, s1 := y.s1, s2 := y.s2, s3 := y.s3, hs := cellPut q y.lane c.hs }

/-- From `s` to `t` the words and the lane `hs[idx]` of the current context have become those of `y`; every other lane, every
byte and every other context is as before. -/
structure MixWritten (s t : State) (y : Mix) : Prop where
  words : ∃ d, t.ctxs[s.kc.toNat]? = some d ∧ wordsOf d = (y.as, y.s1, y.s2, y.s3)
  lanes : ∀ q a, t.peekLane q a = if q = s.kc.toNat ∧ a = s.idx.toNat then y.lane else s.peekLane q a
  bytes : ∀ sp a, t.peekByte sp a = s.peekByte sp a
  others : ∀ q, q ≠ s.kc.toNat → t.ctxs[q]? = s.ctxs[q]?

theorem mixWritten_setCtx (hc : s.ctxs[s.kc.toNat]? = some c) (y : Mix) :
    MixWritten s (s.setCtx (c.withMix s.idx.toNat y)) y where
  words := ⟨_, List.getElem?_set_self (List.getElem?_eq_some_iff.mp hc).1, rfl⟩
  lanes := peekLane_setCtx_cellPut hc rfl
  bytes := peekByte_setCtx hc rfl rfl
  others _ hq := List.getElem?_set_ne hq.symm

theorem MixWritten.of_memoriesKept {u : State} (h : MixWritten s u y) (hk : MemoriesKept u t) : MixWritten s t y := by
  obtain ⟨hbyte, hlane⟩ := hk.readsAlike
  obtain ⟨-, -, hctxs, -⟩ := hk
  exact ⟨hctxs ▸ h.words, fun q a => (hlane q a).trans (h.lanes q a), fun sp a => (hbyte sp a).trans (h.bytes sp a),
    hctxs ▸ h.others⟩

theorem mixWritten_atLine (hc : s.ctxs[s.kc.toNat]? = some c) (y : Mix) (b : Word) (k : Instr) :
    MixWritten s (s.atLine (c.withMix s.idx.toNat y) b k) y :=
  (mixWritten_setCtx hc y).of_memoriesKept ⟨rfl, rfl, rfl, rfl⟩

/-- The next context or the next position does not touch what the pass has written. -/
theorem MixWritten.nextContext (h : MixWritten s t y) : MixWritten s (nextContext t) y := by
  obtain ⟨-, next⟩ | ⟨-, next⟩ := nextContext_cases t
  · exact next ▸ h.of_memoriesKept ⟨rfl, rfl, rfl, rfl⟩
  · exact next ▸ h.of_memoriesKept ⟨rfl, rfl, rfl, rfl⟩

theorem nextContext_atLine :
    nextContext (s.atLine d b k) =
      if s.kc.toNat + 1 < s.nb.toNat then { s.atLine d b .ldin with kc := s.kc + 1 }
      else { s.atLine d b .adv with kc := 0 } := rfl

/-! ### The five micro-operations in the middle of a FastStep -/

section
variable (hc : s.ctxs[s.kc.toNat]? = some c) (hh : s.host = [])
include hc hh

theorem step_fsB_atLine (hm : s.mask.toNat < 2 ^ s.inst.bmCapBits) :
    step (s.atLine d b .fsB) = .next (s.atLine d (tableOf s (d.as ^^^ s.v2)) .fsAs) := by
  obtain ⟨hk, -⟩ := List.getElem?_eq_some_iff.mp hc
  rw [step_atLine hh (by decide), exec_fsB, execFsB_of (atLine_ctx hk) hm, atLine_probe, tableOf_atLine]
  rfl

theorem step_fsAs_atLine :
    step (s.atLine d b .fsAs) = .next (s.atLine { d with
      as := (d.as <<< 7) ^^^ (d.as >>> 5) ^^^ (s.v2 <<< 20) ^^^ (s.v2 <<< 16) ^^^ s.v2
        ^^^ (b <<< 20) ^^^ (b <<< 12) ^^^ (b <<< 4) } b .fsS1) := by
  obtain ⟨hk, -⟩ := List.getElem?_eq_some_iff.mp hc
  rw [step_atLine hh (by decide), exec_fsAs, execFsAs_of (atLine_ctx hk), atLine_setCtx, atLine_goto]
  rfl

theorem step_fsS1_atLine (hi : s.idx.toNat < s.inst.hsCap) (hs : d.hs = c.hs) :
    step (s.atLine d b .fsS1) = .next (s.atLine { d with
      s1 := (d.s1 <<< 9) ^^^ (d.s1 >>> 3) ^^^ s.peekLane s.kc.toNat s.idx.toNat } b .fsHs) := by
  obtain ⟨hk, -⟩ := List.getElem?_eq_some_iff.mp hc
  have current := atLine_ctx (d := d) (b := b) (k := .fsS1) hk
  rw [step_atLine hh (by decide), exec_fsS1, execFsS1_of current (hasLane_idx current hi), atLine_setCtx, atLine_goto,
    peekLane_atLine hc hs]
  rfl

theorem step_fsHs_atLine (hi : s.idx.toNat < s.inst.hsCap) :
    step (s.atLine d b .fsHs) =
      .next (s.atLine { d with hs := cellPut s.idx.toNat (d.s1 ^^^ d.as) d.hs } b .fsRot) := by
  obtain ⟨hk, -⟩ := List.getElem?_eq_some_iff.mp hc
  have current := atLine_ctx (d := d) (b := b) (k := .fsHs) hk
  rw [step_atLine hh (by decide), exec_fsHs, execFsHs_of current (hasLane_idx current hi),
    pokeLane_kc_eq_setCtx current, atLine_setCtx, atLine_goto]
  rfl

theorem step_fsRot_atLine : step (s.atLine d b .fsRot) = .next (nextContext (s.atLine (rotate d) b .fsRot)) := by
  obtain ⟨hk, -⟩ := List.getElem?_eq_some_iff.mp hc
  rw [step_atLine hh (by decide), exec_fsRot, execFsRot_of (atLine_ctx hk), atLine_setCtx]

end

/-! ### The whole FastStep (R150) -/

/-- Five steps from FS.B write the words and the lane of `fastStepFn`, and the rotation's successor follows. -/
theorem run_fastStep (hp : probing s c) (hi : s.idx.toNat < s.inst.hsCap) (hh : s.host = [])
    (hu : s.upc = microAddress .fsB) :
    runSteps 5 s = .next (nextContext (s.atLine (c.withMix s.idx.toNat (fastStepFn (tableOf s) s.v2 (mixOf s c)))
      (tableOf s (c.as ^^^ s.v2)) .fsRot)) := by
  obtain ⟨hc, hm⟩ := hp
  calc runSteps 5 s = runSteps 5 (s.atLine c s.bt .fsB) := by rw [atLine_self hc hu]
    _ = _ := by
      rw [runSteps_succ_of_step (step_fsB_atLine hc hh hm), runSteps_succ_of_step (step_fsAs_atLine hc hh),
        runSteps_succ_of_step (step_fsS1_atLine hc hh hi ?_), runSteps_succ_of_step (step_fsHs_atLine hc hh hi),
        runSteps_succ_of_step (step_fsRot_atLine hc hh)]
      · rfl
      · rfl

/-- Settles O24: the run is `run_fastStep`, what it has written is `MixWritten`, and `nextContext` says what follows. -/
theorem fastStepIsItsListing : Obligations.FastStepIsItsListing := by
  intro s c hp hi hh hu y
  have final : MixWritten s (nextContext (s.atLine (c.withMix s.idx.toNat y) (tableOf s (c.as ^^^ s.v2)) .fsRot)) y :=
    (mixWritten_atLine hp.1 y _ _).nextContext
  obtain ⟨d, current, words⟩ := final.words
  refine ⟨_, d, run_fastStep hp hi hh hu, current, words, ?_, fun q a other => ?_, final.bytes, final.others, ?_⟩
  · exact (final.lanes _ _).trans (if_pos ⟨rfl, rfl⟩)
  · exact (final.lanes q a).trans (if_neg other)
  · rw [nextContext_atLine]
    split_ifs
    · rfl
    · rfl

end Sys2Proof.Machine

/-! Step, the main mixing schedule (43_step.md R160 to R189). The lines are read off the shapes they share (`probeLine_of` and its
like); the table of R161 says the same once each XOR loses its leading zero; and the whole Step is an induction over the
table: `Mixing` says what the current context holds between two lines, and every row keeps it. -/

namespace Sys2Proof.Machine

open Sys2Proof

variable {s t : State} {c d d' : Ctx} {k : Instr} {x : LineOperands} {row : Row}

/-! ### The lines on any state (R162 to R188) -/

theorem execStL05_of (hc : s.ctxs[s.kc.toNat]? = some c) (hl : s.hasLane s.kc.toNat s.idx.toNat = true) :
    execStL05 s = .next ((s.pokeLane s.kc.toNat s.idx.toNat
      (c.s1 ^^^ c.as ^^^ (s.peekLane s.kc.toNat s.idx.toNat <<< 7) ^^^ (s.peekLane s.kc.toNat s.idx.toNat >>> 13))).goto
        .stL06) := by
  rw [execStL05, withCtx_of hc, laneAtIdx_of hl, orFault_some, storeLane_of hl]

/-- Settles O25: four lines of the probing shape; line 5 stores to the lane, which leaves the words and all other cells alone. -/
theorem stepLinesOneToFive : Obligations.StepLinesOneToFive := by
  intro s c hc h
  have probe {x w k} (hm : s.mask.toNat < 2 ^ s.inst.bmCapBits) := probeLine_of hc hm x w k
  refine ⟨probe, probe, probe, probe, fun hi => ?_⟩
  have hl := hasLane_idx hc hi
  exact ⟨_, execStL05_of hc hl, rfl, laneWritten_goto (laneWritten_pokeLane (hasLane_iff.mp hl).1 _ _) .stL06⟩

/-- Settles O26: all eight lines have the probing shape. -/
theorem stepLinesSixToThirteen : Obligations.StepLinesSixToThirteen := by
  intro s c hc
  have probe {x w k} (hm : s.mask.toNat < 2 ^ s.inst.bmCapBits) := probeLine_of hc hm x w k
  exact ⟨probe, probe, probe, probe, probe, probe, probe, probe⟩

/-- Settles O27: all eight lines have the probing shape. -/
theorem stepLinesFourteenToTwentyOne : Obligations.StepLinesFourteenToTwentyOne := by
  intro s c hc
  have probe {x w k} (hm : s.mask.toNat < 2 ^ s.inst.bmCapBits) := probeLine_of hc hm x w k
  exact ⟨probe, probe, probe, probe, probe, probe, probe, probe⟩

/-- Settles O28: four lines of the probing shape, line 26 reads the lane, line 27 reads the lane and probes. -/
theorem stepLinesTwentyTwoToTwentySeven : Obligations.StepLinesTwentyTwoToTwentySeven := by
  intro s c hc h
  have probe {x w k} (hm : s.mask.toNat < 2 ^ s.inst.bmCapBits) := probeLine_of hc hm x w k
  exact ⟨probe, probe, probe, probe, fun hi => laneLine_of hc (hasLane_idx hc hi) _ _,
    fun hm hi => laneProbeLine_of hc (hasLane_idx hc hi) hm _ _ _⟩

/-! ### The table of R161 -/

theorem LineOperands.xor_cons (x : LineOperands) (a : Term) (l : List Term) :
    x.xor (a :: l) = (l.map x.term).foldl (· ^^^ ·) (x.term a) := by
  simp [LineOperands.xor]

section
variable (hp : probing s c)
include hp

theorem exec_scheduleFirst (hi : s.idx.toNat < s.inst.hsCap) :
    ∀ row ∈ scheduleFirst, exec row.line s = .next (row.apply s c) := by
  obtain ⟨hc, hm⟩ := hp
  have probe {x w k} := probeLine_of hc hm x w k
  simp only [scheduleFirst, List.forall_mem_cons, Row.apply, Row.value, LineOperands.xor_cons]
  exact ⟨probe, probe, probe, probe, execStL05_of hc (hasLane_idx hc hi), probe, probe, probe, probe, by simp⟩

theorem exec_scheduleSecond : ∀ row ∈ scheduleSecond, exec row.line s = .next (row.apply s c) := by
  obtain ⟨hc, hm⟩ := hp
  have probe {x w k} := probeLine_of hc hm x w k
  simp only [scheduleSecond, List.forall_mem_cons, Row.apply, Row.value, LineOperands.xor_cons]
  exact ⟨probe, probe, probe, probe, probe, probe, probe, probe, probe, by simp⟩

theorem exec_scheduleThird (hi : s.idx.toNat < s.inst.hsCap) :
    ∀ row ∈ scheduleThird, exec row.line s = .next (row.apply s c) := by
  obtain ⟨hc, hm⟩ := hp
  have hl := hasLane_idx hc hi
  have probe {x w k} := probeLine_of hc hm x w k
  simp only [scheduleThird, List.forall_mem_cons, Row.apply, Row.value, LineOperands.xor_cons]
  exact ⟨probe, probe, probe, probe, probe, probe, probe, laneLine_of hc hl _ _, laneProbeLine_of hc hl hm _ _ _, by simp⟩

theorem exec_scheduleTable (hi : s.idx.toNat < s.inst.hsCap) (h : row ∈ scheduleTable) :
    exec row.line s = .next (row.apply s c) := by
  simp only [scheduleTable, List.mem_append] at h
  obtain (first | second) | third := h
  · exact exec_scheduleFirst hp hi row first
  · exact exec_scheduleSecond hp row second
  · exact exec_scheduleThird hp hi row third

end

/-- Settles O29: the three parts of the table, each compared with the shapes of its lines. -/
theorem stepLinesFollowTheSchedule : Obligations.StepLinesFollowTheSchedule :=
  ⟨rfl, fun _ h _ _ hp hi => exec_scheduleTable hp hi h⟩

/-! ### The listing of R160 as the table, run on values -/

/-- What the sources hold after a row's line. -/
def Row.run (row : Row) (B : Word → Word) (x : LineOperands) : LineOperands :=
  match row.dst with
  | .as => { x with as := row.value B x }
  | .s1 => { x with s1 := row.value B x }
  | .s2 => { x with s2 := row.value B x }
  | .lane => { x with lane := row.value B x }
  | .v2 => x

/-- What the sources hold after the lines of `rows`, in order. -/
def runRows (B : Word → Word) (rows : List Row) (x : LineOperands) : LineOperands :=
  rows.foldl (fun y row => row.run B y) x

/-- The words and the lane after the rotation that ends a Step (R142), `s3` being the word that no line reads. -/
def LineOperands.rotated (x : LineOperands) (s3 : Word) : Mix :=
  { as := x.as, s1 := s3, s2 := x.s1, s3 := x.s2, lane := x.lane }

theorem stepFn_eq_runRows (B : Word → Word) (s : State) (c : Ctx) :
    stepFn B s.v2 (mixOf s c) = (runRows B scheduleTable (lineOperands s c)).rotated c.s3 := by
  simp only [runRows, scheduleTable, scheduleFirst, scheduleSecond, scheduleThird, List.foldl_append, List.foldl_cons,
    List.foldl_nil, Row.run, Row.value, LineOperands.xor_cons]
  rfl

/-! ### The current context between two lines -/

/-- In a Step that began in `s` with current context `c`, the current context is now `d`: its words and its lane `hs[idx]` are
those of `x`; what no line writes is as it was. -/
structure Mixing (s : State) (c : Ctx) (x : LineOperands) (d : Ctx) : Prop where
  s3 : d.s3 = c.s3
  inp : d.inp = c.inp
  out : d.out = c.out
  operands : lineOperands (s.setCtx d) d = x
  lanes : ∀ q a, ¬(q = s.kc.toNat ∧ a = s.idx.toNat) → (s.setCtx d).peekLane q a = s.peekLane q a

theorem mixing_self (hc : s.ctxs[s.kc.toNat]? = some c) : Mixing s c (lineOperands s c) c where
  s3 := rfl
  inp := rfl
  out := rfl
  operands := by simp only [lineOperands, setCtx_kc, setCtx_idx, setCtx_v2, peekLane_setCtx hc rfl]
  lanes q a _ := peekLane_setCtx hc rfl q a

theorem setCtx_current (hk : s.kc.toNat < s.nCtx) (d : Ctx) : (s.setCtx d).ctxs[(s.setCtx d).kc.toNat]? = some d :=
  List.getElem?_set_self hk

theorem peekLane_setCtx_of_hs_eq (hk : s.kc.toNat < s.nCtx) (hs : d'.hs = d.hs) (q a : Nat) :
    (s.setCtx d').peekLane q a = (s.setCtx d).peekLane q a := by
  rw [← setCtx_setCtx s d d', peekLane_setCtx (setCtx_current hk d) hs]

/-- A line that writes running words. -/
theorem Mixing.writeWords (h : Mixing s c x d) (hk : s.kc.toNat < s.nCtx) (as s1 s2 : Word) :
    Mixing s c { x with as := as, s1 := s1, s2 := s2 } { d with as := as, s1 := s1, s2 := s2 } := by
  have same := peekLane_setCtx_of_hs_eq (d := d) (d' := { d with as := as, s1 := s1, s2 := s2 }) hk rfl
  obtain ⟨h3, hin, hout, rfl, lanes⟩ := h
  refine ⟨h3, hin, hout, ?_, fun q a other => (same q a).trans (lanes q a other)⟩
  exact congrArg (LineOperands.mk as s1 s2 · s.v2) (same _ _)

/-- The line that stores to the lane. -/
theorem Mixing.storeLane (h : Mixing s c x d) (hk : s.kc.toNat < s.nCtx) (v : Word) :
    Mixing s c { x with lane := v } { d with hs := cellPut s.idx.toNat v d.hs } := by
  have stored (q a : Nat) : (s.setCtx { d with hs := cellPut s.idx.toNat v d.hs }).peekLane q a =
      if q = s.kc.toNat ∧ a = s.idx.toNat then v else (s.setCtx d).peekLane q a := by
    rw [← setCtx_setCtx s d, peekLane_setCtx_cellPut (setCtx_current hk d) rfl]
    rfl
  obtain ⟨h3, hin, hout, rfl, lanes⟩ := h
  refine ⟨h3, hin, hout, ?_, fun q a other => ?_⟩
  · exact congrArg (LineOperands.mk d.as d.s1 d.s2 · s.v2) ((stored _ _).trans (if_pos ⟨rfl, rfl⟩))
  · rw [stored, if_neg other, lanes q a other]

/-- A row changes the current context as its run on values says. -/
theorem Mixing.apply (h : Mixing s c x d) (hk : s.kc.toNat < s.nCtx) (row : Row) :
    ∃ d', row.apply (s.atLine d s.bt row.line) d = s.atLine d' s.bt row.next ∧ Mixing s c (row.run (tableOf s) x) d' := by
  obtain rfl := h.operands
  have value : row.value (tableOf (s.atLine d s.bt row.line)) (lineOperands (s.atLine d s.bt row.line) d) =
    row.value (tableOf s) (lineOperands (s.setCtx d) d) := rfl
  rw [Row.apply, Row.run, value]
  generalize row.value (tableOf s) (lineOperands (s.setCtx d) d) = v
  have words (e : Ctx) : ((s.atLine d s.bt row.line).setCtx e).goto row.next = s.atLine e s.bt row.next := by
    rw [atLine_setCtx, atLine_goto]
  have stored : ((s.atLine d s.bt row.line).pokeLane s.kc.toNat s.idx.toNat v).goto row.next =
      s.atLine { d with hs := cellPut s.idx.toNat v d.hs } s.bt row.next := by
    rw [← words, ← pokeLane_kc_eq_setCtx (atLine_ctx hk)]
    rfl
  cases row.dst with
  | as => exact ⟨_, words _, h.writeWords hk v d.s1 d.s2⟩
  | s1 => exact ⟨_, words _, h.writeWords hk d.as v d.s2⟩
  | s2 => exact ⟨_, words _, h.writeWords hk d.as d.s1 v⟩
  | lane => exact ⟨_, stored, h.storeLane hk v⟩
  | v2 => exact ⟨d, rfl, h⟩

/-! ### The 27 lines in order -/

/-- The rows are lines that follow one another, from `k` to `k'`. -/
def chained (k : Instr) : List Row → Instr → Prop
  | [], k' => k = k'
  | row :: rest, k' => row.line = k ∧ chained row.next rest k'

theorem scheduleTable_chained : chained .stL01 scheduleTable .stRot := by
  simp [chained, scheduleTable, scheduleFirst, scheduleSecond, scheduleThird]

theorem scheduleTable_line_not_command : ∀ row ∈ scheduleTable, row.line ∉ commands := by decide

section
variable (hp : probing s c) (hh : s.host = [])
include hp hh

theorem step_stRot_atLine (b : Word) :
    step (s.atLine d b .stRot) = .next (afterStep (s.atLine (rotate d) b .stRot)) := by
  obtain ⟨hk, -⟩ := List.getElem?_eq_some_iff.mp hp.1
  rw [step_atLine hh (by decide), exec_stRot, execStRot_of (atLine_ctx hk), atLine_setCtx]

variable (hi : s.idx.toNat < s.inst.hsCap)
include hi

theorem step_row (hr : row ∈ scheduleTable) (h : Mixing s c x d) :
    ∃ d', step (s.atLine d s.bt row.line) = .next (s.atLine d' s.bt row.next)
      ∧ Mixing s c (row.run (tableOf s) x) d' := by
  obtain ⟨hk, -⟩ := List.getElem?_eq_some_iff.mp hp.1
  obtain ⟨d', applied, h'⟩ := h.apply hk row
  have current : probing (s.atLine d s.bt row.line) d := ⟨atLine_ctx hk, hp.2⟩
  exact ⟨d', by rw [step_atLine hh (scheduleTable_line_not_command row hr), exec_scheduleTable current hi hr, applied], h'⟩

theorem run_rows : ∀ {rows : List Row} {k k' : Instr} {x : LineOperands} {d : Ctx}, rows ⊆ scheduleTable →
    chained k rows k' → Mixing s c x d →
    ∃ d', runSteps rows.length (s.atLine d s.bt k) = .next (s.atLine d' s.bt k')
      ∧ Mixing s c (runRows (tableOf s) rows x) d'
  | [], _, _, _, d, _, rfl, h => ⟨d, rfl, h⟩
  | row :: rest, _, _, _, _, sub, ⟨rfl, linked⟩, h => by
    obtain ⟨hr, sub⟩ := List.cons_subset.mp sub
    obtain ⟨_, ran, h⟩ := step_row hp hh hi hr h
    obtain ⟨d', run, h⟩ := run_rows sub linked h
    exact ⟨d', (runSteps_succ_of_step ran _).trans run, h⟩

/-- 28 steps from ST.L01 are the table's lines and the rotation. -/
theorem run_step (hu : s.upc = microAddress .stL01) :
    ∃ d, runSteps 28 s = .next (afterStep (s.atLine (rotate d) s.bt .stRot))
      ∧ Mixing s c (runRows (tableOf s) scheduleTable (lineOperands s c)) d := by
  obtain ⟨d, run, h⟩ := run_rows hp hh hi (List.Subset.refl _) scheduleTable_chained (mixing_self hp.1)
  refine ⟨d, ?_, h⟩
  rw [atLine_self hp.1 hu] at run
  calc runSteps 28 s = runSteps 1 (s.atLine d s.bt .stRot) := runSteps_add_of run 1
    _ = _ := runSteps_succ_of_step (step_stRot_atLine hp hh s.bt) 0

end

/-! ### The whole Step (R160) -/

theorem Mixing.mixWritten (h : Mixing s c x d) (hc : s.ctxs[s.kc.toNat]? = some c) :
    MixWritten s (s.setCtx (rotate d)) (x.rotated c.s3) := by
  obtain ⟨hk, -⟩ := List.getElem?_eq_some_iff.mp hc
  have same := peekLane_setCtx_of_hs_eq (d' := rotate d) (d := d) hk rfl
  obtain ⟨h3, hin, hout, rfl, lanes⟩ := h
  refine ⟨⟨_, List.getElem?_set_self hk, by rw [← h3]; rfl⟩, fun q a => ?_, peekByte_setCtx hc hin hout,
    fun q hq => List.getElem?_set_ne hq.symm⟩
  rw [same]
  split_ifs with current
  · obtain ⟨rfl, rfl⟩ := current
    rfl
  · exact lanes q a current

theorem MixWritten.afterStep {y : Mix} (h : MixWritten s t y) : MixWritten s (afterStep t) y := by
  by_cases last : t.ph = 3
  · exact afterStep_of_ph_eq last ▸ h.of_memoriesKept ⟨rfl, rfl, rfl, rfl⟩
  · exact afterStep_of_ph_ne last ▸ h.nextContext

theorem afterStep_atLine {b : Word} :
    afterStep (s.atLine d b k) = if s.ph = 3 then s.atLine d b .redEmit else nextContext (s.atLine d b k) := rfl

/-- Settles O30: the run is `run_step`, its words are those of the listing by `stepFn_eq_runRows`, and `afterStep` says what
follows. -/
theorem stepIsItsListing : Obligations.StepIsItsListing := by
  intro s c hp hi hh hu _ y
  obtain ⟨e, run, mixing⟩ := run_step hp hh hi hu
  have listing : y = _ := stepFn_eq_runRows (tableOf s) s c
  have final : MixWritten s (afterStep (s.atLine (rotate e) s.bt .stRot)) y :=
    listing ▸ ((mixing.mixWritten hp.1).of_memoriesKept ⟨rfl, rfl, rfl, rfl⟩).afterStep
  obtain ⟨d, current, words⟩ := final.words
  refine ⟨_, d, run, current, words, ?_, fun q a other => ?_, final.bytes, final.others, ?_⟩
  · exact (final.lanes _ _).trans (if_pos ⟨rfl, rfl⟩)
  · exact (final.lanes q a).trans (if_neg other)
  · rw [afterStep_atLine, nextContext_atLine]
    split_ifs
    · rfl
    · rfl
    · rfl

end Sys2Proof.Machine

/-! The reduction pass (44_reduction.md R201, R202): RED.LOAD binds the arguments of a Step, RED.EMIT stores one digest byte
and goes on to the next context, the next lower lane or the end of the command. -/

namespace Sys2Proof.Machine

open Sys2Proof

variable {s t : State} {c : Ctx}

/-! ### The two micro-operations on any state -/

theorem execRedLoad_of (hl : s.hasLane s.kc.toNat s.i.toNat = true) :
    execRedLoad s = .next (({ s with v2 := s.peekLane s.kc.toNat s.i.toNat, idx := s.i }).goto .stL01) := by
  rw [execRedLoad, readLane_of_has hl, orFault_some]

/-- The `byte(...)` of R202 takes back the zero-extension of R140. -/
theorem trunc8_tableOf (s : State) (v : Word) : trunc8 (tableOf s v) = s.peekByte .bm (v &&& s.mask).toNat :=
  BitVec.setWidth_setWidth_of_le _ (by decide)

/-- The digest byte of R202: both probes read the table before the store, so they see the state RED.EMIT starts from. -/
theorem execRedEmit_of (hp : probing s c) (hi : s.i.toNat < s.inst.hsCap) :
    execRedEmit s = .next (afterEmit (s.pokeByte (.out s.kc.toNat) s.i.toNat
      (s.peekByte .bm (c.as &&& s.mask).toNat
        ^^^ s.peekByte .bm (s.peekLane s.kc.toNat s.i.toNat &&& s.mask).toNat))) := by
  obtain ⟨hc, hm⟩ := hp
  obtain ⟨hk, -⟩ := List.getElem?_eq_some_iff.mp hc
  have lane : s.hasLane s.kc.toNat s.i.toNat = true := hasLane_iff.mpr ⟨hk, hi⟩
  have cell : s.hasByte (.out s.kc.toNat) s.i.toNat = true := hasByte_out.mpr ⟨hk, hi⟩
  rw [execRedEmit, withCtx_of hc, probe_of hm, orFault_some, readLane_of_has lane, orFault_some, probe_of hm, orFault_some,
    writeByte_of_has _ cell, orFault_some, trunc8_tableOf, trunc8_tableOf]

/-! ### What RED.EMIT has stored, and what follows (R212) -/

theorem byteWritten_pokeByte_out {k : Nat} (hk : k < s.nCtx) (a : Nat) (v : Byte) :
    byteWritten s (s.pokeByte (.out k) a v) (.out k) a v :=
  ⟨peekByte_pokeByte_out hk a v, peekLane_pokeByte s _ a v, map_wordsOf_modify _ _ fun _ => rfl⟩

theorem ControlMove.memoriesKept (h : ControlMove s t) : MemoriesKept s t := by
  obtain ⟨_, _, _, _, _, _, _, _, rfl⟩ := h
  exact ⟨rfl, rfl, rfl, rfl⟩

/-- Where RED.EMIT goes on to, field by field. -/
theorem afterEmit_eq (s : State) :
    afterEmit s =
      if s.kc.toNat + 1 < s.nb.toNat then { s with kc := s.kc + 1, upc := 0x80 }
      else if 0 < s.i.toNat then { s with kc := 0, i := s.i - 1, upc := 0x80 }
      else { s with kc := 0, upc := 0, status := { s.status with done := true, busy := false } } := rfl

/-- Settles O31: RED.EMIT is a store to OUT followed by a move of the control, which keeps what was stored. -/
theorem reductionLoadsAndEmits : Obligations.ReductionLoadsAndEmits := by
  refine ⟨fun s hk hi => execRedLoad_of (hasLane_iff.mpr ⟨hk, hi⟩), fun s c hp hi => ?_⟩
  obtain ⟨hk, -⟩ := List.getElem?_eq_some_iff.mp hp.1
  have kept := fun v => (ControlMove.afterEmit (s.pokeByte (.out s.kc.toNat) s.i.toNat v)).memoriesKept
  refine ⟨_, execRedEmit_of hp hi, byteWritten_of_memoriesKept (byteWritten_pokeByte_out hk _ _) (kept _), ?_⟩
  obtain ⟨-, -, ctxs, -⟩ := kept _
  rw [ctxs, afterEmit_eq]
  rfl

end Sys2Proof.Machine

/-! The hash sequencer, one operation at a time (45_hash_sequencer.md R210 to R214, 46_optional_commands.md R230 to R235):
acceptance, HINIT, LDIN, ADV, RESUME and `DECIDE` each give one next state. -/

namespace Sys2Proof.Machine

open Sys2Proof

variable {s : State} {b : Byte}

/-! ### DECIDE (R212, R215) -/

/-- Settles O33: `endHash` and `goto` written out. -/
theorem decideChoosesTheSuccessor : Obligations.DecideChoosesTheSuccessor := fun _ => rfl

/-! ### Acceptance (R210, R230, R233, R235) -/

theorem statusAccepted_of_configured {x : Status} (h : x.configured = true) : statusAccepted x = busyStatus true := by
  rw [statusAccepted, busyStatus, h]

theorem hashError_of (hc : s.status.configured = true) (hlen : s.len.toNat ≤ s.inst.inCap) : hashError s = none := by
  simp [hashError, firstError_eq_none, hc, hlen]

theorem prehashError_of (hsplit : s.inst.hasSplit = true) (hc : s.status.configured = true)
    (hplen : s.plen.toNat ≤ s.inst.inCap) : prehashError s = none := by
  simp [prehashError, firstError_eq_none, hsplit, hc, hplen]

theorem posthashError_of (hsplit : s.inst.hasSplit = true) (hc : s.status.configured = true)
    (hlen : s.len.toNat ≤ s.inst.inCap) (hplen : s.plen.toNat ≤ s.len.toNat) : posthashError s = none := by
  simp [posthashError, firstError_eq_none, hsplit, hc, hlen, hplen]

theorem hashbatchError_of (hbatch : s.inst.hasBatch = true) (hc : s.status.configured = true)
    (hlen : s.len.toNat ≤ s.inst.inCap) (hplen : s.plen.toNat ≤ s.inst.inCap)
    (hsum : s.plen.toNat + s.len.toNat < 2 ^ 64) (hpos : 1 ≤ s.nbatch.toNat) (hn : s.nbatch.toNat ≤ s.nCtx) :
    hashbatchError s = none := by
  have hne : s.nbatch ≠ 0 := by
    rintro h0
    rw [h0] at hpos
    exact absurd hpos (by decide)
  simpa [hashbatchError, firstError_eq_none, hbatch, hc, hlen, hplen, hn] using And.intro hsum hne

/-- Settles O10: no check of the command reports an error, so its latches are loaded. -/
theorem hashCommandsAreAccepted : Obligations.HashCommandsAreAccepted := by
  intro s hb hc
  have busy := statusAccepted_of_configured hc
  refine ⟨fun hlen => ?_, fun hsplit hplen => ?_, fun hsplit hlen hplen => ?_,
    fun hbatch hlen hplen hsum hpos hn => ?_⟩
  · rw [exec_hash, execHash, hashError_of hc hlen, acceptance_of_accepted hb, ← busy]
    rfl
  · rw [exec_prehash, execPrehash, prehashError_of hsplit hc hplen, acceptance_of_accepted hb, ← busy]
    rfl
  · rw [exec_posthash, execPosthash, posthashError_of hsplit hc hlen hplen, acceptance_of_accepted hb, ← busy]
    rfl
  · rw [exec_hashbatch, execHashbatch, hashbatchError_of hbatch hc hlen hplen hsum hpos hn, acceptance_of_accepted hb,
      ← busy]
    rfl

/-! ### ADV and RESUME (R214, R232) -/

theorem execAdv_eq (s : State) :
    execAdv s = .next (decideNext
      { s with p := s.p + 1, idx := if s.idx + 1 = s.hashSize then 0 else s.idx + 1 }) := rfl

theorem execResume_eq (s : State) :
    execResume s = .next (decideNext { s with p := s.m, idx := s.m % s.hashSize, kc := 0, ph := 1 }) := rfl

/-- Settles O35: `idx` stays the position mod HASHSIZE by `advanced_idx`. -/
theorem advAndResumeSetThePosition : Obligations.AdvAndResumeSetThePosition := by
  refine fun s => ⟨execAdv_eq s, fun h0 hp hidx => ?_, fun _ => ?_⟩
  · have hpos : 1 ≤ s.hashSize.toNat := Nat.one_le_iff_ne_zero.mpr fun e => h0 (BitVec.eq_of_toNat_eq e)
    exact advanced_idx hpos hp hidx
  · have hmod : s.m % s.hashSize = BitVec.ofNat 64 (s.m.toNat % s.hashSize.toNat) := by
      rw [← BitVec.toNat_umod, BitVec.ofNat_toNat, BitVec.setWidth_eq]
    rw [exec_resume, execResume_eq, hmod]

/-! ### LDIN (R213, R237) -/

theorem inputByte_of_prefix (hc : s.cmd = 0x05) (hp : s.p.toNat < s.m.toNat) (hcap : s.p.toNat < s.inst.inCap) :
    inputByte s = some (s.peekByte .pfx s.p.toNat) := by
  rw [inputByte, if_pos ⟨hc, hp⟩, readByte_of_has (hasByte_pfx.mpr hcap)]

theorem inputByte_of_batch (hc : s.cmd = 0x05) (hp : s.m.toNat ≤ s.p.toNat) (hk : s.kc.toNat < s.nCtx)
    (hcap : s.p.toNat - s.m.toNat < s.inst.inCap) :
    inputByte s = some (s.peekByte (.inp s.kc.toNat) (s.p.toNat - s.m.toNat)) := by
  rw [inputByte, if_neg fun h => Nat.not_lt.mpr hp h.2, if_pos hc, BitVec.toNat_sub_of_le hp,
    readByte_of_has (hasByte_inp.mpr ⟨hk, hcap⟩)]

theorem inputByte_of_single (hc : s.cmd ≠ 0x05) (hn : 0 < s.nCtx) (hcap : s.p.toNat < s.inst.inCap) :
    inputByte s = some (s.peekByte (.inp 0) s.p.toNat) := by
  rw [inputByte, if_neg fun h => hc h.1, if_neg hc, readByte_of_has (hasByte_inp.mpr ⟨hn, hcap⟩)]

theorem execLdin_of (h : inputByte s = some b) :
    execLdin s = .next { s with v2 := zext64 b, upc := if s.ph = 1 then 0x41 else 0x61 } := by
  rw [execLdin, h, orFault_some]
  split_ifs
  · rfl
  · rfl

/-- Settles O34: one equation of `inputByte` per buffer a byte can come from. -/
theorem ldinFetchesTheInputByte : Obligations.LdinFetchesTheInputByte := fun _ =>
  ⟨fun hc hp hcap => execLdin_of (inputByte_of_prefix hc hp hcap),
    fun hc hp hk hcap => execLdin_of (inputByte_of_batch hc hp hk hcap),
    fun hc hn hcap => execLdin_of (inputByte_of_single hc hn hcap)⟩

/-! ### HINIT (R211) -/

theorem execHinit_of (hn : s.nb.toNat ≤ s.nCtx) (hl : s.hashSize.toNat ≤ s.inst.hsCap) :
    execHinit s = .next (decideNext { s with ctxs := initialContexts s, p := 0, idx := 0, kc := 0, ph := 1 }) := by
  rw [execHinit, if_pos hn, if_pos hl, initialContexts]

/-- The contexts in use hold the initial words. -/
theorem initialContexts_words (hn : s.nb.toNat ≤ s.nCtx) {q : Nat} (hq : q < s.nb.toNat) :
    ((initialContexts s)[q]?).map wordsOf = some (s.seed, 0, 0, 0) := by
  rw [initialContexts_getElem?_eq hn, List.getElem?_eq_getElem (Nat.lt_of_lt_of_le hq hn)]
  simp [hq, initialContext, wordsOf]

theorem peekLane_initialContexts (hn : s.nb.toNat ≤ s.nCtx) (q a : Nat) :
    ({ s with ctxs := initialContexts s } : State).peekLane q a =
      if q < s.nb.toNat ∧ a < s.hashSize.toNat then 0 else s.peekLane q a := by
  by_cases hclear : q < s.nb.toNat ∧ a < s.hashSize.toNat
  · have hctx := List.getElem?_eq_getElem (Nat.lt_of_lt_of_le hclear.1 hn)
    simp [State.peekLane, initialContexts_getElem?_eq hn, hctx, hclear, initialContext, cellGet_clearLanes]
  · rw [if_neg hclear]
    refine (storesOnly_hinit hn).lane q a fun h => ?_
    rcases h with ⟨-, h⟩ | ⟨h | h, -⟩
    · exact hclear h
    · cases h
    · cases h

theorem peekByte_initialContexts (hn : s.nb.toNat ≤ s.nCtx) (sp : ByteSpace) (a : Nat) :
    ({ s with ctxs := initialContexts s } : State).peekByte sp a = s.peekByte sp a :=
  (storesOnly_hinit hn).byte sp a (by simp [storesByte])

/-- Settles O32: what HINIT does to the contexts is `initialContexts`, whose words, lanes and bytes are known. -/
theorem hinitLoadsTheInitialState : Obligations.HinitLoadsTheInitialState := by
  intro s hn hl
  refine ⟨_, execHinit_of hn hl, rfl, initialContexts_length hn, fun q hq => initialContexts_words hn hq,
    fun q hq => initialContexts_getElem? hn hq, fun q a => ?_, fun sp a => ?_⟩
  · exact (peekLane_of_memories rfl rfl q a).trans (peekLane_initialContexts hn q a)
  · exact (peekByte_of_memories rfl rfl rfl rfl sp a).trans (peekByte_initialContexts hn sp a)

end Sys2Proof.Machine

/-! The flow of control of a hash command depends on the control part of the state alone (45_hash_sequencer.md R212): two
states with the same control part are the same control over different data, and every transfer reads the control only. -/

namespace Sys2Proof.Machine

open Sys2Proof

variable {s s' t t' : State} {i k : Instr}

/-- The data of `s` under the control part `x`. -/
def State.withControl (s : State) (x : Control) : State :=
  { s with
    upc := x.upc, p := x.p, idx := x.idx, i := x.i, kc := x.kc, ph := x.ph
    cmd := x.cmd, n := x.n, m := x.m, nb := x.nb, hashSize := x.hashSize }

theorem eq_withControl (h : controlOf s = controlOf s') : s' = s'.withControl (controlOf s) := by
  rw [h]
  rfl

theorem controlOf_goto (h : controlOf s = controlOf s') (k : Instr) : controlOf (s.goto k) = controlOf (s'.goto k) := by
  rw [eq_withControl h]
  rfl

theorem controlOf_decideNext (h : controlOf s = controlOf s') : controlOf (decideNext s) = controlOf (decideNext s') := by
  rw [eq_withControl h]
  simp only [decideNext, apply_ite controlOf]
  rfl

theorem controlOf_nextContext (h : controlOf s = controlOf s') :
    controlOf (nextContext s) = controlOf (nextContext s') := by
  rw [eq_withControl h]
  simp only [nextContext, apply_ite controlOf]
  rfl

theorem controlOf_afterStep (h : controlOf s = controlOf s') : controlOf (afterStep s) = controlOf (afterStep s') := by
  rw [eq_withControl h]
  simp only [afterStep, nextContext, apply_ite controlOf]
  rfl

theorem controlOf_afterEmit (h : controlOf s = controlOf s') : controlOf (afterEmit s) = controlOf (afterEmit s') := by
  rw [eq_withControl h]
  simp only [afterEmit, apply_ite controlOf]
  rfl

/-- The lines that write one running word go on to the next line, whatever they read. -/
theorem controlOf_nextLine (hk : nextLine i = some k) (h : controlOf s = controlOf s') (ht : exec i s = .next t)
    (ht' : exec i s' = .next t') : controlOf t = controlOf t' := by
  obtain ⟨c, d, -, -, rfl⟩ := exec_nextLine hk ht
  obtain ⟨c', d', -, -, rfl⟩ := exec_nextLine hk ht'
  exact controlOf_goto (s := s.setCtx d) (s' := s'.setCtx d') h k

/-- Settles O40, by what each operation answers: the data it writes is no part of the control, and where it goes on to is one
of the transfers above. -/
theorem noBranchingOnData : Obligations.NoBranchingOnData := by
  intro i s s' t t' ⟨hcmd, hcheck, hfill, hshuf⟩ h ht ht'
  cases i
  case init | hash | prehash | posthash | hashbatch => exact absurd (by decide) hcmd
  case check => exact absurd rfl hcheck
  case fill => exact absurd rfl hfill
  case shuf => exact absurd rfl hshuf
  case fsB =>
    obtain ⟨v, rfl⟩ := execFsB_eq_next ht
    obtain ⟨v', rfl⟩ := execFsB_eq_next ht'
    exact (controlOf_goto h .fsAs :)
  case fsHs =>
    obtain ⟨-, v, rfl⟩ := execFsHs_eq_next ht
    obtain ⟨-, v', rfl⟩ := execFsHs_eq_next ht'
    exact (controlOf_goto h .fsRot :)
  case stL05 =>
    obtain ⟨-, v, rfl⟩ := execStL05_eq_next ht
    obtain ⟨-, v', rfl⟩ := execStL05_eq_next ht'
    exact (controlOf_goto h .stL06 :)
  case fsRot =>
    obtain ⟨c, -, rfl⟩ := execFsRot_eq_next ht
    obtain ⟨c', -, rfl⟩ := execFsRot_eq_next ht'
    exact controlOf_nextContext (s := s.setCtx _) (s' := s'.setCtx _) h
  case stRot =>
    obtain ⟨c, -, rfl⟩ := execStRot_eq_next ht
    obtain ⟨c', -, rfl⟩ := execStRot_eq_next ht'
    exact controlOf_afterStep (s := s.setCtx _) (s' := s'.setCtx _) h
  case redLoad =>
    obtain ⟨v, rfl⟩ := execRedLoad_eq_next ht
    obtain ⟨v', rfl⟩ := execRedLoad_eq_next ht'
    rw [eq_withControl h]
    rfl
  case redEmit =>
    obtain ⟨-, v, rfl⟩ := execRedEmit_eq_next ht
    obtain ⟨-, v', rfl⟩ := execRedEmit_eq_next ht'
    exact controlOf_afterEmit (s := s.pokeByte (.out _) _ v) (s' := s'.pokeByte (.out _) _ v') h
  case hinit =>
    obtain ⟨-, -, rfl⟩ := execHinit_eq_next ht
    obtain ⟨-, -, rfl⟩ := execHinit_eq_next ht'
    refine controlOf_decideNext ?_
    rw [eq_withControl h]
    rfl
  case ldin =>
    obtain ⟨b, hb, -⟩ := orFault_eq_next ht
    obtain ⟨b', hb', -⟩ := orFault_eq_next ht'
    obtain rfl := Host.Outcome.next.inj ((execLdin_of hb).symm.trans ht)
    obtain rfl := Host.Outcome.next.inj ((execLdin_of hb').symm.trans ht')
    rw [eq_withControl h]
    rfl
  case adv =>
    obtain rfl := Host.Outcome.next.inj ht
    obtain rfl := Host.Outcome.next.inj ht'
    refine controlOf_decideNext ?_
    rw [eq_withControl h]
    rfl
  case resume =>
    obtain rfl := Host.Outcome.next.inj ht
    obtain rfl := Host.Outcome.next.inj ht'
    refine controlOf_decideNext ?_
    rw [eq_withControl h]
    rfl
  all_goals exact controlOf_nextLine rfl h ht ht'

end Sys2Proof.Machine

/-! Turns of one context (45_hash_sequencer.md R212): in passes 1 and 2 LDIN with a FastStep or a Step, in pass 3 RED.LOAD, a
Step and RED.EMIT. A turn advances the mix state of the current context as the listings do on values, and changes nothing
else that a host can read but, in pass 3, one digest byte. -/

namespace Sys2Proof.Machine

open Sys2Proof

variable {s t : State} {c : Ctx} {b : Byte} {x : Mixer} {y : Mix} {k : Nat}

/-! ### The mix state of a context -/

theorem mixerOf_of_words {as s1 s2 s3 : Word} (h : (s.ctxs[k]?).map wordsOf = some (as, s1, s2, s3)) :
    mixerOf s k = { as := as, s1 := s1, s2 := s2, s3 := s3, lanes := (List.range s.hashSize.toNat).map (s.peekLane k) } := by
  obtain ⟨c, hc, hw⟩ := Option.map_eq_some_iff.mp h
  cases hw
  rw [mixerOf, hc]
  rfl

/-- The mix state of a context is its words and its lanes in use. -/
theorem mixerOf_congr (hs : t.hashSize = s.hashSize) (hw : (t.ctxs[k]?).map wordsOf = (s.ctxs[k]?).map wordsOf)
    (hl : ∀ a, t.peekLane k a = s.peekLane k a) : mixerOf t k = mixerOf s k := by
  have lanes : t.peekLane k = s.peekLane k := funext hl
  have words : wordsOf ((t.ctxs[k]?).getD Ctx.blank) = wordsOf ((s.ctxs[k]?).getD Ctx.blank) := by
    rw [← Option.getD_map wordsOf, ← Option.getD_map wordsOf, hw]
  obtain ⟨has, h1, h2, h3⟩ : _ ∧ _ ∧ _ ∧ _ := by simpa only [wordsOf, Prod.mk.injEq] using words
  simp only [mixerOf, hs, lanes, has, h1, h2, h3]

theorem mixerOf_of_ctx (hs : t.hashSize = s.hashSize) (he : t.epoch = s.epoch) (hc : t.ctxs[k]? = s.ctxs[k]?) :
    mixerOf t k = mixerOf s k :=
  mixerOf_congr hs (by rw [hc]) fun a => by rw [State.peekLane, State.peekLane, hc, he]

theorem mixerOf_lane {a : Nat} (ha : a < s.hashSize.toNat) : (mixerOf s k).lanes.getD a 0 = s.peekLane k a := by
  simp [mixerOf, ha]

/-- The control is no part of a mix state. -/
theorem ControlMove.mixerOf (h : ControlMove s t) (k : Nat) : mixerOf t k = mixerOf s k := by
  obtain ⟨_, _, _, _, _, _, _, _, rfl⟩ := h
  rfl

/-- A byte written is no part of a mix state. -/
theorem byteWritten.mixerOf {sp : ByteSpace} {a : Nat} {w : Byte} (h : byteWritten s t sp a w)
    (hs : t.hashSize = s.hashSize) (k : Nat) : mixerOf t k = mixerOf s k := by
  obtain ⟨-, lanes, words⟩ := h
  refine mixerOf_congr hs ?_ (lanes k)
  rw [← List.getElem?_map, words, List.getElem?_map]

/-- What `MixWritten` says of the current context: its mix state has advanced on lane `idx` (R156, R190). -/
theorem MixWritten.mixerOf_current {f : Mix → Mix} (h : MixWritten s t (f (mixOf s c)))
    (hc : s.ctxs[s.kc.toNat]? = some c) (hi : s.idx.toNat < s.hashSize.toNat) (hs : t.hashSize = s.hashSize) :
    mixerOf t s.kc.toNat = (mixerOf s s.kc.toNat).advance f s.idx.toNat := by
  have arguments : mixOf s c =
      { as := (mixerOf s s.kc.toNat).as, s1 := (mixerOf s s.kc.toNat).s1, s2 := (mixerOf s s.kc.toNat).s2
        s3 := (mixerOf s s.kc.toNat).s3, lane := (mixerOf s s.kc.toNat).lanes.getD s.idx.toNat 0 } := by
    rw [mixerOf_lane hi, mixerOf, hc]
    rfl
  obtain ⟨d, current, written⟩ := h.words
  have words := (congrArg (Option.map wordsOf) current).trans (congrArg some written)
  rw [mixerOf_of_words words, Mixer.advance, ← arguments, hs]
  congr 1
  refine List.ext_getElem (by simp [mixerOf]) fun a _ _ => ?_
  simp [mixerOf, List.getElem_set, h.lanes, eq_comm]

/-! ### Turns -/

/-- `t` is `s` with other contexts, as many, another micro-address and other latches `v2` and `bt`. -/
def TurnMove (s t : State) : Prop :=
  ∃ upc ctxs bt v2, ctxs.length = s.nCtx ∧ t = { s with upc := upc, ctxs := ctxs, bt := bt, v2 := v2 }

/-- A turn does not move the counters, apart from what follows it. -/
theorem TurnMove.counters (h : TurnMove s t) :
    t.kc = s.kc ∧ t.p = s.p ∧ t.idx = s.idx ∧ t.i = s.i ∧ t.ph = s.ph := by
  obtain ⟨_, _, _, _, -, rfl⟩ := h
  exact ⟨rfl, rfl, rfl, rfl, rfl⟩

theorem TurnMove.status (h : TurnMove s t) : t.status = s.status := by
  obtain ⟨_, _, _, _, -, rfl⟩ := h
  rfl

theorem TurnMove.mask (h : TurnMove s t) : t.mask = s.mask := by
  obtain ⟨_, _, _, _, -, rfl⟩ := h
  rfl

theorem TurnMove.withUpc (h : TurnMove s t) (a : BitVec 8) : TurnMove s { t with upc := a } := by
  obtain ⟨_, _, _, _, hl, rfl⟩ := h
  exact ⟨_, _, _, _, hl, rfl⟩

/-- From `s` to `t` the mix state of the current context has become `x`; no other context has changed. -/
structure Turned (s t : State) (x : Mixer) : Prop where
  move : TurnMove s t
  current : mixerOf t s.kc.toNat = x
  others : ∀ k, k ≠ s.kc.toNat → t.ctxs[k]? = s.ctxs[k]?

theorem MixWritten.turned {f : Mix → Mix} (h : MixWritten s t (f (mixOf s c))) (hm : TurnMove s t)
    (hc : s.ctxs[s.kc.toNat]? = some c) (hi : s.idx.toNat < s.hashSize.toNat) :
    Turned s t ((mixerOf s s.kc.toNat).advance f s.idx.toNat) where
  move := hm
  current := by
    obtain ⟨_, _, _, _, -, rfl⟩ := id hm
    exact h.mixerOf_current hc hi rfl
  others := h.others

/-- Where the latch `v2` is loaded and the micro-address goes on, a turn begins. -/
theorem Turned.of_loaded {w : Word} {a : BitVec 8} (h : Turned { s with v2 := w, upc := a } t x) : Turned s t x := by
  obtain ⟨⟨_, _, _, _, hl, ht⟩, current, others⟩ := h
  exact ⟨⟨_, _, _, _, hl, ht⟩, current, others⟩

theorem Turned.withUpc (h : Turned s t x) (a : BitVec 8) : Turned s { t with upc := a } x :=
  ⟨h.move.withUpc a, h.current, h.others⟩

theorem tableOf_congr (hm : t.mask = s.mask) (hb : ∀ a, t.peekByte .bm a = s.peekByte .bm a) :
    tableOf t = tableOf s := by
  funext v
  rw [tableOf, tableOf, probeAddress, probeAddress, hm, hb]

/-- The current context, the table, the lane `idx` and the host are as a FastStep or a Step needs them. -/
structure TurnReady (s : State) : Prop where
  context : s.kc.toNat < s.nCtx
  table : s.mask.toNat < 2 ^ s.inst.bmCapBits
  lane : s.idx.toNat < s.hashSize.toNat
  lanes : s.hashSize.toNat ≤ s.inst.hsCap
  silent : s.host = []

theorem TurnReady.loaded (h : TurnReady s) (w : Word) (a : BitVec 8) : TurnReady { s with v2 := w, upc := a } :=
  ⟨h.context, h.table, h.lane, h.lanes, h.silent⟩

theorem TurnReady.turned (h : TurnReady s) (hm : TurnMove s t) : TurnReady t := by
  obtain ⟨_, _, _, _, hl, rfl⟩ := hm
  exact ⟨h.context.trans_eq hl.symm, h.table, h.lane, h.lanes, h.silent⟩

theorem TurnReady.probing (h : TurnReady s) : ∃ c, probing s c :=
  ⟨_, List.getElem?_eq_getElem h.context, h.table⟩

theorem TurnReady.idx_lt (h : TurnReady s) : s.idx.toNat < s.inst.hsCap := Nat.lt_of_lt_of_le h.lane h.lanes

/-- A FastStep advances the mix state of the current context by `fastStepFn` (R150). -/
theorem run_fastStep_turned (h : TurnReady s) (hu : s.upc = microAddress .fsB) :
    ∃ v, runSteps 5 s = .next (nextContext v) ∧ (∀ sp a, v.peekByte sp a = s.peekByte sp a)
      ∧ Turned s v ((mixerOf s s.kc.toNat).advance (fastStepFn (tableOf s) s.v2) s.idx.toNat) := by
  obtain ⟨c, hp⟩ := h.probing
  have written := mixWritten_atLine hp.1 (fastStepFn (tableOf s) s.v2 (mixOf s c)) (tableOf s (c.as ^^^ s.v2)) .fsRot
  exact ⟨_, run_fastStep hp h.idx_lt h.silent hu, written.bytes,
    written.turned ⟨_, _, _, _, List.length_set, rfl⟩ hp.1 h.lane⟩

/-- A Step advances it by `stepFn` (43_step.md R160). -/
theorem run_step_turned (h : TurnReady s) (hu : s.upc = microAddress .stL01) :
    ∃ v, runSteps 28 s = .next (afterStep v) ∧ (∀ sp a, v.peekByte sp a = s.peekByte sp a)
      ∧ Turned s v ((mixerOf s s.kc.toNat).advance (stepFn (tableOf s) s.v2) s.idx.toNat) := by
  obtain ⟨c, hp⟩ := h.probing
  obtain ⟨d, run, mixing⟩ := run_step hp h.silent h.idx_lt hu
  have written : MixWritten s (s.atLine (rotate d) s.bt .stRot) (stepFn (tableOf s) s.v2 (mixOf s c)) := by
    rw [stepFn_eq_runRows]
    exact (mixing.mixWritten hp.1).of_memoriesKept ⟨rfl, rfl, rfl, rfl⟩
  exact ⟨_, run, written.bytes, written.turned ⟨_, _, _, _, List.length_set, rfl⟩ hp.1 h.lane⟩

/-! ### Passes 1 and 2: one input byte -/

/-- What pass `ph` does with an input byte: FastStep in pass 1, Step in pass 2 (R210). -/
def passFn (B : Word → Word) (ph : BitVec 2) : Word → Mix → Mix := if ph = 1 then fastStepFn B else stepFn B

/-- The micro-operations of a turn of pass `ph`, LDIN included (R217). -/
def turnSteps (ph : BitVec 2) : Nat := if ph = 1 then 6 else 29

/-- A turn of pass 1 or 2 on the input byte `b`. -/
theorem run_input_turn (h : TurnReady s) (hu : s.upc = microAddress .ldin) (h3 : s.ph ≠ 3) (hb : inputByte s = some b) :
    ∃ v, runSteps (turnSteps s.ph) s = .next (nextContext v) ∧ (∀ sp a, v.peekByte sp a = s.peekByte sp a)
      ∧ Turned s v ((mixerOf s s.kc.toNat).advance (passFn (tableOf s) s.ph (zext64 b)) s.idx.toNat) := by
  have load := (step_eq_exec h.silent hu (by decide)).trans (execLdin_of hb)
  by_cases h1 : s.ph = 1
  · rw [if_pos h1] at load
    obtain ⟨v, run, bytes, turned⟩ := run_fastStep_turned (s := { s with v2 := zext64 b, upc := 0x41 }) (h.loaded _ _) rfl
    refine ⟨v, ?_, fun sp a => (bytes sp a).trans (peekByte_of_memories rfl rfl rfl rfl sp a), ?_⟩
    · rw [turnSteps, if_pos h1, runSteps_succ_of_step load, run]
    · rw [passFn, if_pos h1]
      exact turned.of_loaded
  · rw [if_neg h1] at load
    obtain ⟨v, run, bytes, turned⟩ := run_step_turned (s := { s with v2 := zext64 b, upc := 0x61 }) (h.loaded _ _) rfl
    obtain ⟨-, -, -, -, hph⟩ := turned.move.counters
    refine ⟨v, ?_, fun sp a => (bytes sp a).trans (peekByte_of_memories rfl rfl rfl rfl sp a), ?_⟩
    · rw [turnSteps, if_neg h1, runSteps_succ_of_step load, run, afterStep_of_ph_ne (hph.trans_ne h3)]
    · rw [passFn, if_neg h1]
      exact turned.of_loaded

@[simp] theorem effectiveInput_length (s : State) (k : Nat) : (effectiveInput s k).length = s.n.toNat := by
  simp [effectiveInput]

theorem effectiveInput_getD {q : Nat} (hq : q < s.n.toNat) :
    (effectiveInput s k).getD q 0 =
      if s.cmd = 5 then if q < s.m.toNat then s.peekByte .pfx q else s.peekByte (.inp k) (q - s.m.toNat)
      else s.peekByte (.inp 0) q := by
  simp [effectiveInput, hq]

/-- The byte LDIN fetches is the byte of the effective input (R213, 46_optional_commands.md R237). -/
theorem inputByte_eq_effectiveInput (hh : hashOk s) (hk : s.kc.toNat < s.nCtx) (hp : s.p.toNat < s.n.toNat) :
    inputByte s = some ((effectiveInput s s.kc.toNat).getD s.p.toNat 0) := by
  obtain ⟨-, -, hn, hnb, -, -, hsingle, hbatch⟩ := hh
  rw [effectiveInput_getD hp]
  split_ifs with hc hpm
  · exact inputByte_of_prefix hc hpm (Nat.lt_of_lt_of_le hpm (hbatch hc).1)
  · have := (hbatch hc).2
    exact inputByte_of_batch hc (Nat.le_of_not_lt hpm) hk (by omega)
  · exact inputByte_of_single hc (Nat.le_trans hn hnb) (Nat.lt_of_lt_of_le hp (hsingle hc))

/-! ### Pass 3: one lane (44_reduction.md R200 to R202) -/

/-- The Step of pass 3 on lane `q`: its input value is the lane itself (R201). -/
def Mixer.mixLane (B : Word → Word) (q : Nat) (x : Mixer) : Mixer := x.advance (stepFn B (x.lanes.getD q 0)) q

/-- The digest byte of lane `q` (R202). -/
def Mixer.digestByte (B : Word → Word) (q : Nat) (x : Mixer) : Byte := trunc8 (B x.as) ^^^ trunc8 (B (x.lanes.getD q 0))

theorem Mixer.reduce_succ (B : Word → Word) (q : Nat) (x : Mixer) (digest : List Byte) :
    Mixer.reduce B (q + 1) x digest = Mixer.reduce B q (x.mixLane B q) ((x.mixLane B q).digestByte B q :: digest) := rfl

/-- RED.EMIT stores the digest byte of the mix state of the current context. -/
theorem step_redEmit (h : TurnReady s) (hi : s.idx = s.i) (hu : s.upc = microAddress .redEmit) :
    step s = .next (afterEmit (s.pokeByte (.out s.kc.toNat) s.i.toNat
      ((mixerOf s s.kc.toNat).digestByte (tableOf s) s.i.toNat))) := by
  obtain ⟨c, hp⟩ := h.probing
  have as : (mixerOf s s.kc.toNat).as = c.as := by
    rw [mixerOf, hp.1]
    rfl
  rw [step_eq_exec h.silent hu (by decide), exec_redEmit, execRedEmit_of hp (hi ▸ h.idx_lt), Mixer.digestByte,
    trunc8_tableOf, trunc8_tableOf, mixerOf_lane (hi ▸ h.lane), as]

theorem step_redLoad (h : TurnReady { s with idx := s.i }) (hu : s.upc = microAddress .redLoad) :
    step s = .next { s with idx := s.i, v2 := s.peekLane s.kc.toNat s.i.toNat, upc := 0x61 } :=
  (step_eq_exec (s := s) h.silent hu (by decide)).trans (execRedLoad_of (hasLane_iff.mpr ⟨h.context, h.idx_lt⟩))

/-- The digest byte is stored in the current context, whose mix state it does not touch. -/
theorem Turned.emit (h : Turned s t x) (hk : t.kc.toNat < t.nCtx) (a : Nat) (w : Byte) :
    Turned s (t.pokeByte (.out t.kc.toNat) a w) x where
  move := by
    obtain ⟨_, _, _, _, hl, rfl⟩ := h.move
    exact ⟨_, _, _, _, (List.length_modify ..).trans hl, rfl⟩
  current := ((byteWritten_pokeByte_out hk a w).mixerOf (pokeByte_hashSize ..) _).trans h.current
  others q hq := by
    obtain ⟨hkc, -⟩ := h.move.counters
    rw [pokeByte_out_ctxs, List.getElem?_modify_ne _ _ (hkc ▸ hq.symm), h.others q hq]

/-- RED.LOAD and the Step of pass 3 on lane `i`. -/
theorem run_lane_step (h : TurnReady { s with idx := s.i }) (hu : s.upc = microAddress .redLoad) (h3 : s.ph = 3) :
    ∃ v, runSteps 29 s = .next v ∧ v.upc = microAddress .redEmit ∧ (∀ sp a, v.peekByte sp a = s.peekByte sp a)
      ∧ Turned { s with idx := s.i } v ((mixerOf s s.kc.toNat).mixLane (tableOf s) s.i.toNat) := by
  have lane : (mixerOf s s.kc.toNat).lanes.getD s.i.toNat 0 = s.peekLane s.kc.toNat s.i.toNat := mixerOf_lane h.lane
  obtain ⟨v, run, bytes, turned⟩ := run_step_turned (s := { s with
    idx := s.i, v2 := s.peekLane s.kc.toNat s.i.toNat, upc := 0x61 }) (h.loaded _ _) rfl
  obtain ⟨-, -, -, -, hph⟩ := turned.move.counters
  rw [afterStep_of_ph_eq (hph.trans h3)] at run
  refine ⟨v.goto .redEmit, ?_, rfl, fun sp a => ?_, ?_⟩
  · rw [runSteps_succ_of_step (step_redLoad h hu), run]
  · exact (goto_peekByte v .redEmit sp a).trans ((bytes sp a).trans (peekByte_of_memories rfl rfl rfl rfl sp a))
  · rw [Mixer.mixLane, lane]
    exact turned.of_loaded.withUpc _

/-- A turn of pass 3 on lane `i`: the probes of RED.EMIT see the mix state the Step has left. -/
theorem run_lane_turn (h : TurnReady { s with idx := s.i }) (hu : s.upc = microAddress .redLoad) (h3 : s.ph = 3)
    (hx : x = (mixerOf s s.kc.toNat).mixLane (tableOf s) s.i.toNat) :
    ∃ v, runSteps 30 s = .next (afterEmit v) ∧ Turned { s with idx := s.i } v x
      ∧ ∀ sp a, v.peekByte sp a =
        if sp = .out s.kc.toNat ∧ a = s.i.toNat then x.digestByte (tableOf s) s.i.toNat else s.peekByte sp a := by
  obtain ⟨v, run, hv, bytes, turned⟩ := run_lane_step h hu h3
  rw [← hx] at turned
  have ready := h.turned turned.move
  have table : tableOf v = tableOf s := tableOf_congr turned.move.mask (bytes .bm)
  obtain ⟨hkc, -, hidx, hi, -⟩ : v.kc = s.kc ∧ v.p = s.p ∧ v.idx = s.i ∧ v.i = s.i ∧ v.ph = s.ph := turned.move.counters
  have emit := step_redEmit ready (hidx.trans hi.symm) hv
  have current : mixerOf v v.kc.toNat = x := hkc ▸ turned.current
  rw [current, table] at emit
  refine ⟨_, (runSteps_add_of run 1).trans (runSteps_succ_of_step emit 0), turned.emit ready.context _ _, fun sp a => ?_⟩
  rw [peekByte_pokeByte_out ready.context, bytes, hkc, hi]

end Sys2Proof.Machine

/-! Passes 1 and 2 of a hash command (45_hash_sequencer.md R210 to R214). The run of a command that started in `u` is followed
through the places where it can be, `Fetching`, `Advancing` and `AtDecide`. Each says what the recursion of the listing still
has to do with the mix state of every context, so a turn or a transfer is one unfolding of that recursion. Any number of
contexts runs at once (46_optional_commands.md R236). -/

namespace Sys2Proof.Machine

open Sys2Proof

variable {s t u v : State} {x : Nat → Mixer} {m : Mixer} {ph : BitVec 2} {k kc p low : Nat}

/-! ### Loops of runs -/

/-- A place kept by a body of `cost` micro-operations up to `n` is reached at `n`. -/
theorem run_loop {P : Nat → State → Prop} {n cost : Nat}
    (body : ∀ {k t}, k < n → P k t → ∃ t', runSteps cost t = .next t' ∧ P (k + 1) t') :
    ∀ (count k : Nat) {t : State}, k + count = n → P k t → ∃ t', runSteps (count * cost) t = .next t' ∧ P n t'
  | 0, k, t, hk, h => ⟨t, by rw [Nat.zero_mul]; rfl, by rwa [← hk]⟩
  | count + 1, k, t, hk, h => by
    obtain ⟨v, run, h⟩ := body (by omega) h
    rw [Nat.succ_mul, Nat.add_comm, runSteps_add_of run]
    exact run_loop body count (k + 1) (by omega) h

/-! ### What a hash command leaves alone -/

/-- From `u` to `t` nothing has changed but STATUS, the sequencer, the latches `v2` and `bt` and the contexts, as many. -/
def HashMove (u t : State) : Prop :=
  ∃ status upc p idx i ps kc ph v2 bt ctxs, ctxs.length = u.nCtx ∧ t = { u with
    status := status, upc := upc, p := p, idx := idx, i := i, ps := ps, kc := kc, ph := ph, v2 := v2, bt := bt
    ctxs := ctxs }

theorem HashMove.trans (h : HashMove u s) (h' : HashMove s t) : HashMove u t := by
  obtain ⟨_, _, _, _, _, _, _, _, _, _, _, hl, rfl⟩ := h
  obtain ⟨_, _, _, _, _, _, _, _, _, _, _, hl', rfl⟩ := h'
  exact ⟨_, _, _, _, _, _, _, _, _, _, _, hl'.trans hl, rfl⟩

theorem ControlMove.hashMove (h : ControlMove s t) : HashMove s t := by
  obtain ⟨_, _, _, _, _, _, _, _, rfl⟩ := h
  exact ⟨_, _, _, _, _, _, _, _, _, _, _, rfl, rfl⟩

theorem TurnMove.hashMove (h : TurnMove s t) : HashMove s t := by
  obtain ⟨_, _, _, _, hl, rfl⟩ := h
  exact ⟨_, _, _, _, _, _, _, _, _, _, _, hl, rfl⟩

/-- The block hashes on the configuration and the latches it started with. -/
theorem HashMove.kept (h : HashMove u t) :
    t.inst = u.inst ∧ t.nCtx = u.nCtx ∧ t.hashSize = u.hashSize ∧ t.mask = u.mask ∧ t.nb = u.nb ∧ t.n = u.n
      ∧ t.host = u.host := by
  obtain ⟨_, _, _, _, _, _, _, _, _, _, _, hl, rfl⟩ := h
  exact ⟨rfl, hl, rfl, rfl, rfl, rfl, rfl⟩

theorem HashMove.latches (h : HashMove u t) : t.cmd = u.cmd ∧ t.n = u.n ∧ t.m = u.m := by
  obtain ⟨_, _, _, _, _, _, _, _, _, _, _, -, rfl⟩ := h
  exact ⟨rfl, rfl, rfl⟩

theorem HashMove.running (h : HashMove u t) (hs : t.status = u.status) (r : HashRunning u) : HashRunning t := by
  obtain ⟨_, _, _, _, _, _, _, _, _, _, _, hl, rfl⟩ := h
  cases hs
  exact r.withCtxs hl

/-- In the run of a hash command that started in `u` the block is in `t`: no byte has changed but those of the digests in use
at or above `low`, and no context beyond those in use. -/
structure HashState (u : State) (low : Nat) (t : State) : Prop where
  move : HashMove u t
  bytes : ∀ sp a, ¬(∃ k < u.nb.toNat, sp = .out k ∧ low ≤ a ∧ a < u.hashSize.toNat) → t.peekByte sp a = u.peekByte sp a
  others : ∀ k, u.nb.toNat ≤ k → t.ctxs[k]? = u.ctxs[k]?

theorem HashState.mono {low' : Nat} (h : HashState u low t) (hl : low' ≤ low) : HashState u low' t :=
  ⟨h.move, fun sp a hn => h.bytes sp a fun ⟨k, hk, hsp, ha, hlt⟩ => hn ⟨k, hk, hsp, Nat.le_trans hl ha, hlt⟩, h.others⟩

/-- A transfer of control keeps the memories. -/
theorem HashState.transfer (h : HashState u low s) (hm : ControlMove s t) : HashState u low t where
  move := h.move.trans hm.hashMove
  bytes sp a hn := (hm.readsAlike.1 sp a).trans (h.bytes sp a hn)
  others k hk := by
    obtain ⟨-, -, hctxs, -⟩ := hm.memoriesKept
    rw [hctxs, h.others k hk]

theorem HashState.turned (h : HashState u low s) (ht : Turned s t m) (hb : ∀ sp a, t.peekByte sp a = s.peekByte sp a)
    (hk : s.kc.toNat < u.nb.toNat) : HashState u low t where
  move := h.move.trans ht.move.hashMove
  bytes sp a hn := (hb sp a).trans (h.bytes sp a hn)
  others k hk' := (ht.others k (by omega)).trans (h.others k hk')

theorem HashState.byte_of_digests (h : HashState u u.hashSize.toNat t) (sp : ByteSpace) (a : Nat) :
    t.peekByte sp a = u.peekByte sp a :=
  h.bytes sp a fun ⟨_, _, _, ha, hlt⟩ => Nat.not_lt.mpr ha hlt

/-- The table is the one the command started with. -/
theorem HashState.tableOf_eq (h : HashState u low t) : tableOf t = tableOf u := by
  obtain ⟨-, -, -, hmask, -⟩ := h.move.kept
  exact tableOf_congr hmask fun a => h.bytes .bm a fun ⟨_, _, hsp, _⟩ => nomatch hsp

/-- So are the inputs, as long as no digest byte has been written. -/
theorem HashState.effectiveInput_eq (h : HashState u u.hashSize.toNat t) (k : Nat) :
    effectiveInput t k = effectiveInput u k := by
  have bytes := h.byte_of_digests
  obtain ⟨hc, hn, hm⟩ := h.move.latches
  simp only [effectiveInput, bytes, hn, hm, hc]

/-- A turn of context `kc` leaves the mix states of the other contexts alone. -/
theorem Turned.mixerOf_other (h : Turned s t m) (hk : k ≠ s.kc.toNat) : mixerOf t k = mixerOf s k := by
  have same : t.hashSize = s.hashSize ∧ t.epoch = s.epoch := by
    obtain ⟨_, _, _, _, -, rfl⟩ := h.move
    exact ⟨rfl, rfl⟩
  exact mixerOf_of_ctx same.1 same.2 (h.others k hk)

/-! ### Passes 1 and 2 -/

/-- What pass `ph` still does to the mix state of context `k` from position `p` on. -/
def passRest (u : State) (ph : BitVec 2) (p k : Nat) (y : Mixer) : Mixer :=
  Mixer.pass (passFn (tableOf u) ph) u.hashSize.toNat p ((effectiveInput u k).drop p) y

theorem passRest_of_lt (hp : p < u.n.toNat) (y : Mixer) :
    passRest u ph p k y = passRest u ph (p + 1) k
      (y.advance (passFn (tableOf u) ph (zext64 ((effectiveInput u k).getD p 0))) (p % u.hashSize.toNat)) := by
  have hlen : p < (effectiveInput u k).length := by simpa using hp
  rw [passRest, List.drop_eq_getElem_cons hlen, Mixer.pass, List.getD_eq_getElem _ _ hlen, passRest]

theorem passRest_end (y : Mixer) : passRest u ph u.n.toNat k y = y := by
  rw [passRest, List.drop_of_length_le (by simp), Mixer.pass]

/-- The run is at position `p` of pass `ph` (R214). -/
structure InPass (u : State) (ph : BitVec 2) (p : Nat) (t : State) : Prop extends HashState u u.hashSize.toNat t where
  status : t.status = u.status
  position : t.p.toNat = p
  lane : t.idx.toNat = p % u.hashSize.toNat
  pass : t.ph = ph

/-- LDIN is next, for context `kc`; `x` is what the pass leaves in the contexts. -/
structure Fetching (u : State) (ph : BitVec 2) (p kc : Nat) (x : Nat → Mixer) (t : State) : Prop
    extends InPass u ph p t where
  upc : t.upc = microAddress .ldin
  context : t.kc.toNat = kc
  rest : ∀ k < u.nb.toNat, passRest u ph (if k < kc then p + 1 else p) k (mixerOf t k) = x k

/-- ADV is next: position `p` is done in all contexts. -/
structure Advancing (u : State) (ph : BitVec 2) (p : Nat) (x : Nat → Mixer) (t : State) : Prop
    extends InPass u ph p t where
  upc : t.upc = microAddress .adv
  context : t.kc = 0
  rest : ∀ k < u.nb.toNat, passRest u ph (p + 1) k (mixerOf t k) = x k

/-- `DECIDE` is applied to `t`: all positions before `p` are done. -/
structure AtDecide (u : State) (ph : BitVec 2) (p : Nat) (x : Nat → Mixer) (t : State) : Prop
    extends InPass u ph p t where
  context : t.kc = 0
  rest : ∀ k < u.nb.toNat, passRest u ph p k (mixerOf t k) = x k

/-- Position `p` is done in all contexts before `kc`. -/
def ContextReached (u : State) (ph : BitVec 2) (p : Nat) (x : Nat → Mixer) (kc : Nat) (t : State) : Prop :=
  if kc = u.nb.toNat then Advancing u ph p x t else Fetching u ph p kc x t

theorem InPass.transfer (h : InPass u ph p s) (hm : ControlMove s t) (hs : t.status = s.status)
    (hp : t.p = s.p) (hi : t.idx = s.idx) (hph : t.ph = s.ph) : InPass u ph p t :=
  ⟨h.toHashState.transfer hm, hs.trans h.status, hp ▸ h.position, hi ▸ h.lane, hph.trans h.pass⟩

theorem InPass.turned (h : InPass u ph p s) (ht : Turned s t m) (hb : ∀ sp a, t.peekByte sp a = s.peekByte sp a)
    (hk : s.kc.toNat < u.nb.toNat) : InPass u ph p t := by
  obtain ⟨-, hp, hi, -, hph⟩ := ht.move.counters
  exact ⟨h.toHashState.turned ht hb hk, ht.move.status.trans h.status, hp ▸ h.position, hi ▸ h.lane, hph.trans h.pass⟩

theorem InPass.turnReady (r : HashRunning u) (hh : u.host = []) (h : InPass u ph p t) (hk : t.kc.toNat < u.nb.toNat) :
    TurnReady t := by
  have r' := h.move.running h.status r
  obtain ⟨-, -, hsize, -, hnb, -, hhost⟩ := h.move.kept
  refine ⟨r'.kc_lt (hnb ▸ hk), r'.mask_lt, ?_, r'.hashSize_le, hhost.trans hh⟩
  rw [h.lane, hsize]
  exact Nat.mod_lt _ r.one_le_hashSize

/-- Once context `kc` has had its turn it is one of the contexts whose position `p` is done. -/
theorem Fetching.rest_turned (h : Fetching u ph p kc x t) (hp : p < u.n.toNat)
    (ht : Turned t v ((mixerOf t kc).advance
      (passFn (tableOf u) ph (zext64 ((effectiveInput u kc).getD p 0))) (p % u.hashSize.toNat))) :
    ∀ k < u.nb.toNat, passRest u ph (if k < kc + 1 then p + 1 else p) k (mixerOf v k) = x k := by
  intro k hk
  have rest := h.rest k hk
  have hkc := h.context
  rcases Nat.lt_trichotomy k kc with hlt | rfl | hgt
  · rw [if_pos hlt] at rest
    rw [if_pos (Nat.lt_succ_of_lt hlt), ht.mixerOf_other (by omega), rest]
  · rw [if_neg (Nat.lt_irrefl k), passRest_of_lt hp] at rest
    have current := ht.current
    rw [h.context] at current
    rw [if_pos (Nat.lt_succ_self k), current, rest]
  · rw [if_neg (Nat.lt_asymm hgt)] at rest
    rw [if_neg (by omega), ht.mixerOf_other (by omega), rest]

/-- One turn of context `kc`: the next context, or ADV after the last (R212). -/
theorem Fetching.turn (r : HashRunning u) (hh : u.host = []) (h3 : ph ≠ 3) (hp : p < u.n.toNat) (hk : kc < u.nb.toNat)
    (h : Fetching u ph p kc x t) :
    ∃ t', runSteps (turnSteps ph) t = .next t' ∧ ContextReached u ph p x (kc + 1) t' := by
  obtain ⟨-, -, -, -, hnb, hn, -⟩ := h.move.kept
  have hcur : t.kc.toNat < u.nb.toNat := h.context ▸ hk
  have ready := h.toInPass.turnReady r hh hcur
  have fetch := inputByte_eq_effectiveInput (h.move.running h.status r).hashOk ready.context (by rwa [h.position, hn])
  rw [h.effectiveInput_eq, h.position, h.context] at fetch
  obtain ⟨v, run, bytes, turned⟩ := run_input_turn ready h.upc (h.pass.trans_ne h3) fetch
  have pass := h.toInPass.turned turned bytes hcur
  have hvk : v.kc.toNat = kc := (congrArg BitVec.toNat turned.move.counters.1).trans h.context
  have hvnb : v.nb.toNat = u.nb.toNat := by
    obtain ⟨-, -, -, -, hvnb, -⟩ := pass.move.kept
    rw [hvnb]
  rw [h.pass] at run turned
  rw [h.tableOf_eq, h.lane, h.context] at turned
  have rest := h.rest_turned hp turned
  refine ⟨_, run, ?_⟩
  rcases nextContext_cases v with ⟨hlt, next⟩ | ⟨hge, next⟩
  · rw [next, ContextReached, if_neg (by omega)]
    have hkc : (v.kc + 1).toNat = kc + 1 := by bv_omega
    exact ⟨pass.transfer (.of_eq rfl) rfl rfl rfl rfl, rfl, hkc, rest⟩
  · have hlast : kc + 1 = u.nb.toNat := by omega
    rw [next, ContextReached, if_pos hlast]
    exact ⟨pass.transfer (.of_eq rfl) rfl rfl rfl rfl, rfl, rfl, fun k hk => by rw [← rest k hk, if_pos (by omega)]; rfl⟩

/-- ADV: the next position (R214). -/
theorem Advancing.step (r : HashRunning u) (hh : u.host = []) (hp : p < u.n.toNat) (h : Advancing u ph p x t) :
    ∃ v, Machine.step t = .next (decideNext v) ∧ AtDecide u ph (p + 1) x v := by
  obtain ⟨-, -, hsize, -, -, -, hhost⟩ := h.move.kept
  refine ⟨_, (step_eq_exec (hhost.trans hh) h.upc (by decide)).trans (execAdv_eq t), ?_⟩
  have hlt : t.p.toNat + 1 < 2 ^ 64 := Nat.lt_of_le_of_lt (h.position ▸ hp) u.n.isLt
  have position : (t.p + 1).toNat = p + 1 := by
    rw [← h.position]
    bv_omega
  have lane := advanced_idx (idx := t.idx) (hsize ▸ r.one_le_hashSize) hlt (by rw [h.lane, h.position, hsize])
  rw [position, hsize] at lane
  exact ⟨⟨h.toHashState.transfer (.of_eq rfl), h.status, position, hsize ▸ lane, h.pass⟩, h.context, h.rest⟩

/-- Micro-operations of one position: a turn of every context and ADV (46_optional_commands.md R236). -/
def positionSteps (u : State) (ph : BitVec 2) : Nat := u.nb.toNat * turnSteps ph + 1

/-- One position of a pass. -/
theorem AtDecide.run_position (r : HashRunning u) (hh : u.host = []) (h3 : ph ≠ 3) (hp : p < u.n.toNat)
    (h : AtDecide u ph p x v) :
    ∃ v', runSteps (positionSteps u ph) (decideNext v) = .next (decideNext v') ∧ AtDecide u ph (p + 1) x v' := by
  obtain ⟨-, -, -, -, -, hn, -⟩ := h.move.kept
  have start : ContextReached u ph p x 0 (decideNext v) := by
    rw [ContextReached, if_neg (by have := r.one_le_nb; omega), decideNext, if_pos (by rwa [h.position, hn])]
    exact ⟨h.toInPass.transfer (.of_eq rfl) rfl rfl rfl rfl, rfl, congrArg BitVec.toNat h.context, h.rest⟩
  obtain ⟨w, run, reached⟩ := run_loop (P := ContextReached u ph p x) (n := u.nb.toNat)
    (fun hk reached => by
      rw [ContextReached, if_neg hk.ne] at reached
      exact reached.turn r hh h3 hp hk) u.nb.toNat 0 (Nat.zero_add _) start
  rw [ContextReached, if_pos rfl] at reached
  obtain ⟨v', adv, h'⟩ := reached.step r hh hp
  exact ⟨v', (runSteps_add_of run 1).trans (runSteps_succ_of_step adv 0), h'⟩

/-- A whole pass from position `p` on. -/
theorem AtDecide.run_pass (r : HashRunning u) (hh : u.host = []) (h3 : ph ≠ 3) (hp : p ≤ u.n.toNat)
    (h : AtDecide u ph p x v) :
    ∃ v', runSteps ((u.n.toNat - p) * positionSteps u ph) (decideNext v) = .next (decideNext v')
      ∧ AtDecide u ph u.n.toNat x v' := by
  obtain ⟨_, run, v', rfl, h'⟩ := run_loop (P := fun q t => ∃ v, t = decideNext v ∧ AtDecide u ph q x v) (n := u.n.toNat)
    (fun hq => by
      rintro ⟨v, rfl, h⟩
      obtain ⟨v', run, h'⟩ := h.run_position r hh h3 hq
      exact ⟨_, run, v', rfl, h'⟩) (u.n.toNat - p) p (by omega) ⟨v, rfl, h⟩
  exact ⟨v', run, h'⟩

theorem decideNext_of_pass2_done (hp : s.n.toNat ≤ s.p.toNat) (h2 : s.ph = 2) :
    decideNext s = ({ s with ph := 3, i := s.hashSize - 1 }).goto .redLoad := by
  rw [decideNext, if_neg (Nat.not_lt.mpr hp), if_neg (by simp [h2]), if_neg (by simp [h2])]

/-- After pass 1 pass 2 starts (R212), if the command is not PREHASH; over an empty input it is over at once. -/
theorem AtDecide.start_pass2 (hc : u.cmd ≠ 0x03) (h : AtDecide u 1 u.n.toNat x v) :
    ∃ v', decideNext v = decideNext v' ∧ AtDecide u 2 0 (fun k => passRest u 2 0 k (x k)) v' := by
  obtain ⟨hcmd, hn, -⟩ := h.move.latches
  have hp := h.position
  have rest : ∀ k < u.nb.toNat, passRest u 2 0 k (mixerOf v k) = passRest u 2 0 k (x k) := fun k hk => by
    rw [← h.rest k hk, passRest_end]
  rcases decideNext_cases v with ⟨hlt, -⟩ | ⟨-, -, hc3, -⟩ | ⟨-, -, -, hpos, next⟩ | ⟨-, hend, next⟩
  · rw [hp, hn] at hlt
    exact absurd hlt (Nat.lt_irrefl _)
  · exact absurd (hcmd.symm.trans hc3) hc
  · refine ⟨{ v with ph := 2, p := 0, idx := 0 }, ?_, ?_⟩
    · rw [next, decideNext, if_pos (by exact hpos)]
    · exact ⟨⟨h.toHashState.transfer (.of_eq rfl), h.status, rfl, (Nat.zero_mod _).symm, rfl⟩, h.context, rest⟩
  · have empty : u.n.toNat = 0 := hn ▸ (hend h.pass).2
    rw [empty] at hp
    refine ⟨{ v with ph := 2 }, ?_, ?_⟩
    · rw [next, decideNext_of_pass2_done (s := { v with ph := 2 }) (by simp [hn, empty]) rfl]
    · exact ⟨⟨h.toHashState.transfer (.of_eq rfl), h.status, hp, empty ▸ h.lane, rfl⟩, h.context, rest⟩

end Sys2Proof.Machine

/-! Pass 3 and the whole of a hash command (44_reduction.md R200 to R202, 45_hash_sequencer.md R210 to R217). `Reducing` and
`Hashed` say where pass 3 is and what `Mixer.reduce` still makes of every context; `run_hash` puts the three passes together
for any number of contexts, and HASH is its case of one context. -/

namespace Sys2Proof.Machine

open Sys2Proof

variable {s t u v : State} {x : Nat → Mixer} {d : Nat → List Byte} {k kc p q : Nat}

/-! ### Pass 3 (44_reduction.md R200) -/

/-- The digest bytes of context `k` from lane `q` on. -/
def digestFrom (s : State) (k q : Nat) : List Byte :=
  (List.range' q (s.hashSize.toNat - q)).map (s.peekByte (.out k))

theorem digestFrom_zero (s : State) (k : Nat) : digestFrom s k 0 = digestOf s k := by
  rw [digestFrom, digestOf, List.range_eq_range', Nat.sub_zero]

theorem digestFrom_end (s : State) (k : Nat) : digestFrom s k s.hashSize.toNat = [] := by
  rw [digestFrom, Nat.sub_self, List.range'_zero, List.map_nil]

theorem digestFrom_of_lt (hq : q < s.hashSize.toNat) :
    digestFrom s k q = s.peekByte (.out k) q :: digestFrom s k (q + 1) := by
  have hlen : s.hashSize.toNat - q = s.hashSize.toNat - (q + 1) + 1 := by omega
  rw [digestFrom, hlen, List.range'_succ, List.map_cons, digestFrom]

theorem digestFrom_congr (hs : t.hashSize = s.hashSize)
    (hb : ∀ a, q ≤ a → t.peekByte (.out k) a = s.peekByte (.out k) a) : digestFrom t k q = digestFrom s k q := by
  rw [digestFrom, digestFrom, hs]
  refine List.map_congr_left fun a ha => hb a ?_
  rw [List.mem_range'_1] at ha
  exact ha.1

/-- What pass 3 still makes of context `k` when `count` of its lanes are left (R200). -/
def reduceRest (u : State) (count : Nat) (t : State) (k : Nat) : List Byte :=
  Mixer.reduce (tableOf u) count (mixerOf t k) (digestFrom t k count)

/-- The digests of the contexts that have no turn stay what they are. -/
theorem reduceRest_congr (hm : mixerOf t k = mixerOf s k) (hs : t.hashSize = s.hashSize)
    (hb : ∀ a, t.peekByte (.out k) a = s.peekByte (.out k) a) : reduceRest u q t k = reduceRest u q s k := by
  rw [reduceRest, reduceRest, hm, digestFrom_congr hs fun a _ => hb a]

/-- One lane of one context: its Step and its digest byte (R201, R202). -/
theorem reduceRest_succ (hq : q < t.hashSize.toNat) (hs : t.hashSize = s.hashSize)
    (hm : mixerOf t k = (mixerOf s k).mixLane (tableOf u) q)
    (hb : ∀ a, t.peekByte (.out k) a =
      if a = q then ((mixerOf s k).mixLane (tableOf u) q).digestByte (tableOf u) q else s.peekByte (.out k) a) :
    reduceRest u q t k = reduceRest u (q + 1) s k := by
  have later : digestFrom t k (q + 1) = digestFrom s k (q + 1) :=
    digestFrom_congr hs fun a ha => by rw [hb, if_neg (by omega)]
  rw [reduceRest, reduceRest, Mixer.reduce_succ, hm, digestFrom_of_lt hq, hb, if_pos rfl, later]

/-- Pass 3 is at lane `q`, which is done in all contexts before `kc`; `d` are the digests it leaves. -/
structure InLane (u : State) (q kc : Nat) (d : Nat → List Byte) (t : State) : Prop extends HashState u q t where
  status : t.status = u.status
  pass : t.ph = 3
  lane : t.i.toNat = q
  rest : ∀ k < u.nb.toNat, reduceRest u (if k < kc then q else q + 1) t k = d k

/-- RED.LOAD is next, for context `kc`. -/
structure Reducing (u : State) (q kc : Nat) (d : Nat → List Byte) (t : State) : Prop extends InLane u q kc d t where
  upc : t.upc = microAddress .redLoad
  context : t.kc.toNat = kc

/-- The command has ended (R215) with the digests `d`. -/
structure Hashed (u : State) (d : Nat → List Byte) (t : State) : Prop extends HashState u 0 t where
  status : t.status = statusDone u.status
  upc : t.upc = 0
  digest : ∀ k < u.nb.toNat, digestOf t k = d k

/-- `count` lanes are left in all contexts. -/
def LanesReached (u : State) (d : Nat → List Byte) (count : Nat) (t : State) : Prop :=
  match count with
  | 0 => Hashed u d t
  | q + 1 => Reducing u q 0 d t

/-- Lane `q` is done in all contexts before `kc`. -/
def EmitReached (u : State) (q : Nat) (d : Nat → List Byte) (kc : Nat) (t : State) : Prop :=
  if kc = u.nb.toNat then LanesReached u d q t else Reducing u q kc d t

theorem Reducing.turnReady (r : HashRunning u) (hh : u.host = []) (hq : q < u.hashSize.toNat) (hk : kc < u.nb.toNat)
    (h : Reducing u q kc d t) : TurnReady { t with idx := t.i } := by
  have r' := h.move.running h.status r
  obtain ⟨-, -, hsize, -, hnb, -, hhost⟩ := h.move.kept
  have hcur : t.kc.toNat < t.nb.toNat := by rwa [h.context, hnb]
  have hlane : t.i.toNat < t.hashSize.toNat := by rwa [h.lane, hsize]
  exact ⟨r'.kc_lt hcur, r'.mask_lt, hlane, r'.hashSize_le, hhost.trans hh⟩

/-- A turn of pass 3 on context `kc` has ended in `v`, its digest byte stored. -/
structure Emitted (u : State) (q kc : Nat) (t v : State) : Prop where
  turned : Turned { t with idx := t.i } v ((mixerOf t kc).mixLane (tableOf u) q)
  bytes : ∀ sp a, v.peekByte sp a =
    if sp = .out kc ∧ a = q then ((mixerOf t kc).mixLane (tableOf u) q).digestByte (tableOf u) q else t.peekByte sp a

/-- Lane `q` of context `kc` is done too. -/
theorem Reducing.inLane_of_emitted (hq : q < u.hashSize.toNat) (hk : kc < u.nb.toNat) (h : Reducing u q kc d t)
    (he : Emitted u q kc t v) : InLane u q (kc + 1) d v := by
  have hm : HashMove t v :=
    (ControlMove.of_eq (t := { t with idx := t.i }) rfl).hashMove.trans he.turned.move.hashMove
  obtain ⟨-, -, hs, -⟩ := hm.kept
  obtain ⟨-, -, husize, -⟩ := h.move.kept
  obtain ⟨-, -, -, hi, hph⟩ : v.kc = t.kc ∧ v.p = t.p ∧ v.idx = t.i ∧ v.i = t.i ∧ v.ph = t.ph := he.turned.move.counters
  have other {k count : Nat} (hne : k ≠ kc) : reduceRest u count v k = reduceRest u count t k :=
    reduceRest_congr (he.turned.mixerOf_other (h.context.symm ▸ hne)) hs fun a => by
      rw [he.bytes, if_neg fun e => hne (ByteSpace.out.inj e.1)]
  refine ⟨⟨h.move.trans hm, fun sp a hn => ?_, fun k hk' => ?_⟩, he.turned.move.status.trans h.status,
    hph.trans h.pass, hi ▸ h.lane, fun k hk' => ?_⟩
  · rw [he.bytes, if_neg fun (e : sp = .out kc ∧ a = q) => hn ⟨kc, hk, e.1, e.2.ge, e.2 ▸ hq⟩]
    exact h.bytes sp a hn
  · have hne : k ≠ t.kc.toNat := by
      rw [h.context]
      omega
    exact (he.turned.others k hne).trans (h.others k hk')
  · have rest := h.rest k hk'
    rcases Nat.lt_trichotomy k kc with hlt | rfl | hgt
    · rw [if_pos hlt] at rest
      rw [if_pos (Nat.lt_succ_of_lt hlt), other hlt.ne, rest]
    · rw [if_neg (Nat.lt_irrefl k)] at rest
      have current : mixerOf v k = _ := h.context ▸ he.turned.current
      rw [if_pos (Nat.lt_succ_self k), ← rest]
      exact reduceRest_succ (by rwa [hs, husize]) hs current fun a => by simp [he.bytes]
    · rw [if_neg (Nat.lt_asymm hgt)] at rest
      rw [if_neg (by omega), other hgt.ne', rest]

/-- Where RED.EMIT goes on to: the next context, the next lower lane, or the end (R212). -/
theorem InLane.afterEmit (hk : kc < u.nb.toNat) (h : InLane u q (kc + 1) d t) (hc : t.kc.toNat = kc) :
    EmitReached u q d (kc + 1) (afterEmit t) := by
  have hnb : t.nb.toNat = u.nb.toNat := by
    obtain ⟨-, -, -, -, hnb, -⟩ := h.move.kept
    rw [hnb]
  have hlane := h.lane
  have rest : kc + 1 = u.nb.toNat → ∀ k < u.nb.toNat, reduceRest u q t k = d k := fun hlast k hk => by
    rw [← h.rest k hk, if_pos (by omega)]
  rcases afterEmit_cases t with ⟨hlt, next⟩ | ⟨hge, hpos, next⟩ | ⟨hge, hzero, next⟩
  · have hkc : (t.kc + 1).toNat = kc + 1 := by bv_omega
    rw [EmitReached, if_neg (by omega), next]
    exact ⟨⟨h.toHashState.transfer (.of_eq rfl), h.status, h.pass, hlane, h.rest⟩, rfl, hkc⟩
  · have hlast : kc + 1 = u.nb.toNat := by omega
    obtain ⟨q, rfl⟩ : ∃ q', q = q' + 1 := ⟨q - 1, by omega⟩
    have hi : (t.i - 1).toNat = q := by bv_omega
    rw [EmitReached, if_pos hlast, next]
    exact ⟨⟨(h.toHashState.mono (Nat.le_succ q)).transfer (.of_eq rfl), h.status, h.pass, hi, rest hlast⟩, rfl, rfl⟩
  · have hlast : kc + 1 = u.nb.toNat := by omega
    obtain rfl : q = 0 := by omega
    rw [EmitReached, if_pos hlast, next]
    refine ⟨h.toHashState.transfer (.of_eq rfl), congrArg statusDone h.status, rfl, fun k hk => ?_⟩
    rw [← rest hlast k hk, reduceRest, Mixer.reduce, digestFrom_zero]
    rfl

/-- One turn of context `kc` in pass 3. -/
theorem Reducing.turn (r : HashRunning u) (hh : u.host = []) (hq : q < u.hashSize.toNat) (hk : kc < u.nb.toNat)
    (h : Reducing u q kc d t) : ∃ t', runSteps 30 t = .next t' ∧ EmitReached u q d (kc + 1) t' := by
  obtain ⟨v, run, turned, bytes⟩ := run_lane_turn (h.turnReady r hh hq hk) h.upc h.pass rfl
  rw [h.tableOf_eq, h.context, h.lane] at turned bytes
  have hkc := (congrArg BitVec.toNat turned.move.counters.1).trans h.context
  exact ⟨_, run, (h.inLane_of_emitted hq hk ⟨turned, bytes⟩).afterEmit hk hkc⟩

/-- All lanes: the loop of R200. -/
theorem run_reduce (r : HashRunning u) (hh : u.host = []) : ∀ (count : Nat) {t : State}, count ≤ u.hashSize.toNat →
    LanesReached u d count t →
    ∃ t', runSteps (count * (u.nb.toNat * 30)) t = .next t' ∧ Hashed u d t'
  | 0, t, _, h => ⟨t, by rw [Nat.zero_mul]; rfl, h⟩
  | q + 1, t, hq, h => by
    have start : EmitReached u q d 0 t := by
      rw [EmitReached, if_neg (by have := r.one_le_nb; omega)]
      exact h
    obtain ⟨v, run, reached⟩ := run_loop (P := EmitReached u q d) (n := u.nb.toNat)
      (fun hk reached => by
        rw [EmitReached, if_neg hk.ne] at reached
        exact reached.turn r hh hq hk) u.nb.toNat 0 (Nat.zero_add _) start
    rw [EmitReached, if_pos rfl] at reached
    rw [Nat.succ_mul, Nat.add_comm, runSteps_add_of run]
    exact run_reduce r hh q (Nat.le_of_succ_le hq) reached

/-! ### The three passes (45_hash_sequencer.md R210) -/

/-- After pass 2 pass 3 starts at the last lane (R212). -/
theorem AtDecide.start_pass3 (r : HashRunning u) (h : AtDecide u 2 u.n.toNat x v) :
    LanesReached u (fun k => Mixer.reduce (tableOf u) u.hashSize.toNat (x k) []) u.hashSize.toNat (decideNext v) := by
  obtain ⟨-, -, hsize, -, -, hn, -⟩ := h.move.kept
  have hone := r.one_le_hashSize
  obtain ⟨q, hq⟩ : ∃ q, u.hashSize.toNat = q + 1 := ⟨u.hashSize.toNat - 1, by omega⟩
  have hi : (v.hashSize - 1).toNat = q := by
    rw [hsize]
    bv_omega
  rw [decideNext_of_pass2_done (by rw [h.position, hn]) h.pass, hq]
  refine ⟨⟨(h.toHashState.mono (by omega)).transfer (.of_eq rfl), h.status, rfl, hi, fun k hk => ?_⟩, rfl,
    congrArg BitVec.toNat h.context⟩
  have current : mixerOf v k = x k := by rw [← h.rest k hk, passRest_end]
  have none : digestFrom v k (q + 1) = [] := by rw [← hq, ← hsize, digestFrom_end]
  rw [if_neg (Nat.not_lt_zero k), ← current, ← none]
  rfl

theorem finishHash_eq_reduce (u : State) (p k : Nat) (y : Mixer) :
    finishHash (tableOf u) u.hashSize.toNat p (effectiveInput u k) y =
      Mixer.reduce (tableOf u) u.hashSize.toNat (passRest u 2 0 k (passRest u 1 p k y)) [] := rfl

/-- From position `p` of pass 1 on, a command that is not PREHASH finishes the hash of every context in use (R210,
46_optional_commands.md R233); `x` are their mix states at `p`. -/
theorem InPass.run_finish (r : HashRunning u) (hh : u.host = []) (hc : u.cmd ≠ 0x03) (hp : p ≤ u.n.toNat)
    (h : InPass u 1 p v) (hkc : v.kc = 0) (hx : ∀ k < u.nb.toNat, mixerOf v k = x k) :
    ∃ t, runSteps ((u.n.toNat - p) * positionSteps u 1 + (u.n.toNat * positionSteps u 2
        + u.hashSize.toNat * (u.nb.toNat * 30))) (decideNext v) = .next t
      ∧ Hashed u (fun k => finishHash (tableOf u) u.hashSize.toNat p (effectiveInput u k) (x k)) t := by
  have first : AtDecide u 1 p (fun k => passRest u 1 p k (x k)) v := ⟨h, hkc, fun k hk => by rw [hx k hk]⟩
  obtain ⟨v₁, run₁, first'⟩ := first.run_pass r hh (by decide) hp
  obtain ⟨v₂, next, second⟩ := first'.start_pass2 hc
  obtain ⟨v₃, run₂, second'⟩ := second.run_pass r hh (by decide) (Nat.zero_le _)
  obtain ⟨t, run₃, hashed⟩ := run_reduce r hh _ (Nat.le_refl _) (second'.start_pass3 r)
  rw [Nat.sub_zero] at run₂
  simp only [finishHash_eq_reduce]
  refine ⟨t, ?_, hashed⟩
  rw [runSteps_add_of run₁, next, runSteps_add_of run₂, run₃]

/-! ### HASH and HASHBATCH (R210, R211, 46_optional_commands.md R235) -/

/-- The state HINIT applies `DECIDE` to (R211). -/
def hashInitial (u : State) : State := { u with ctxs := initialContexts u, p := 0, idx := 0, kc := 0, ph := 1 }

theorem inPass_hashInitial (r : HashRunning u) : InPass u 1 0 (hashInitial u) where
  move := ⟨_, _, _, _, _, _, _, _, _, _, _, initialContexts_length r.nb_le, rfl⟩
  bytes sp a _ := (peekByte_of_memories rfl rfl rfl rfl sp a).trans (peekByte_initialContexts r.nb_le sp a)
  others _ hk := initialContexts_getElem? r.nb_le hk
  status := rfl
  position := rfl
  lane := (Nat.zero_mod _).symm
  pass := rfl

/-- HINIT gives every context in use the initial mix state. -/
theorem mixerOf_hashInitial (r : HashRunning u) (hk : k < u.nb.toNat) :
    mixerOf (hashInitial u) k = Mixer.initial u.seed u.hashSize.toNat := by
  have words : ((hashInitial u).ctxs[k]?).map wordsOf = _ := initialContexts_words r.nb_le hk
  rw [mixerOf_of_words words, Mixer.initial]
  congr 1
  refine List.eq_replicate_iff.mpr ⟨by simp [hashInitial], fun y hy => ?_⟩
  obtain ⟨a, ha, rfl⟩ := List.mem_map.mp hy
  exact (peekLane_initialContexts r.nb_le k a).trans (if_pos ⟨hk, List.mem_range.mp ha⟩)

/-- A command that starts at HINIT and is not PREHASH hashes the effective input of every context in use. -/
theorem run_hash (r : HashRunning u) (hh : u.host = []) (hc : u.cmd ≠ 0x03) (hu : u.upc = microAddress .hinit) :
    ∃ t, runSteps (1 + (u.n.toNat * positionSteps u 1 + (u.n.toNat * positionSteps u 2
        + u.hashSize.toNat * (u.nb.toNat * 30)))) u = .next t
      ∧ Hashed u (fun k => hashFn (tableOf u) u.seed u.hashSize.toNat (effectiveInput u k)) t := by
  have init : step u = .next (decideNext (hashInitial u)) :=
    (step_eq_exec hh hu (by decide)).trans (execHinit_of r.nb_le r.hashSize_le)
  obtain ⟨t, run, hashed⟩ := (inPass_hashInitial r).run_finish r hh hc (Nat.zero_le _) rfl
    fun k hk => mixerOf_hashInitial r hk
  exact ⟨t, (runSteps_add_of (runSteps_succ_of_step init 0) _).trans run, hashed⟩

/-! ### HASH -/

/-- The state HASH starts in, the host silent (R210). -/
def hashStart (s : State) : State := (latched { s with host := [] } 0x02 s.len 0 1).goto .hinit

theorem step_hash (hb : s.status.busy = false) (hc : s.status.configured = true) (hh : s.host = [.wr 0x00 0x02])
    (hlen : s.len.toNat ≤ s.inst.inCap) : step s = .next (hashStart s) := by
  rw [stepRunsCommandWritten s [] 0x02 .hash hh rfl, exec_hash, execHash,
    hashError_of (s := { s with host := [] }) hc hlen, acceptance_of_accepted (s := { s with host := [] }) hb]
  rfl

theorem hashRunning_hashStart (hs : Sound s) (hc : s.status.configured = true) (hlen : s.len.toNat ≤ s.inst.inCap) :
    HashRunning (hashStart s) :=
  ⟨statusOk_accepted _, rfl, hs.config hc, hashOk_latched_single (cmd := 0x02) (m := 0)
    (hs.withHost [] s.rdata s.freeReads s.epoch) hc (.inl rfl) (Nat.zero_le _) hlen⟩

/-- In every command but HASHBATCH the effective input is that of `IN[0]` (R213). -/
theorem effectiveInput_of_single (hc : s.cmd ≠ 5) (k : Nat) : effectiveInput s k = bytesOf s (.inp 0) s.n.toNat := by
  simp only [effectiveInput, if_neg hc, bytesOf]

/-- The counts of R217 for one context. -/
theorem hash_steps (n size : Nat) (hn : u.nb = 1) :
    1 + (n * positionSteps u 1 + (n * positionSteps u 2 + size * (u.nb.toNat * 30))) = 1 + 37 * n + 30 * size := by
  have fast : positionSteps u 1 = 7 := by rw [positionSteps, hn]; rfl
  have full : positionSteps u 2 = 30 := by rw [positionSteps, hn]; rfl
  have one : u.nb.toNat = 1 := congrArg BitVec.toNat hn
  rw [fast, full, one]
  omega

/-- Settles O52: acceptance leads to HINIT, and `run_hash` follows the three passes from there. -/
theorem hashComputesTheDigest : Obligations.HashComputesTheDigest := by
  intro s hs hb hc hh hlen
  have r := hashRunning_hashStart hs hc hlen
  obtain ⟨t, run, hashed⟩ := run_hash r rfl (by decide : (0x02 : Byte) ≠ 0x03) rfl
  rw [hash_steps _ _ rfl] at run
  have digest := hashed.digest 0 Nat.one_pos
  rw [effectiveInput_of_single (by decide : (0x02 : Byte) ≠ 5)] at digest
  have bytes (sp : ByteSpace) (a : Nat) (hn : ¬(sp = .out 0 ∧ a < s.hashSize.toNat)) :
      t.peekByte sp a = s.peekByte sp a := by
    refine (hashed.bytes sp a fun ⟨k, hk, hsp, _, ha⟩ => hn ⟨?_, ha⟩).trans (peekByte_of_memories rfl rfl rfl rfl sp a)
    rw [hsp, Nat.lt_one_iff.mp hk]
  have others (k : Nat) (hk : k ≠ 0) : t.ctxs[k]? = s.ctxs[k]? := hashed.others k (Nat.one_le_iff_ne_zero.mpr hk)
  refine ⟨t, ?_, ?_, hashed.upc, digest, ?_, bytes, others⟩
  · rw [runSteps_add_of (runSteps_succ_of_step (step_hash hb hc hh hlen) 0)]
    exact run
  · exact hashed.status.trans (congrArg statusDone (statusAccepted_of_configured hc))
  · obtain ⟨_, _, _, _, _, _, _, _, _, _, _, -, rfl⟩ := hashed.move
    exact ⟨rfl, rfl, rfl, rfl, rfl, rfl, rfl, rfl⟩

end Sys2Proof.Machine

/-! The optional commands PREHASH, POSTHASH and HASHBATCH (46_optional_commands.md R230 to R238). Each starts in a state that
`AtDecide`, `InPass` or `run_hash` speak of; what is left is where the command starts and where it ends. -/

namespace Sys2Proof.Machine

open Sys2Proof

variable {s t u : State} {d : Nat → List Byte} {k : Nat}

/-! ### The split form as functions of values (R234) -/

theorem Mixer.pass_append (f : Word → Mix → Mix) (hashSize : Nat) (rest : List Byte) :
    ∀ (first : List Byte) (p : Nat) (y : Mixer), Mixer.pass f hashSize p (first ++ rest) y =
      Mixer.pass f hashSize (p + first.length) rest (Mixer.pass f hashSize p first y)
  | [], _, _ => rfl
  | b :: first, p, y => by
    rw [List.cons_append, Mixer.pass, Mixer.pass, Mixer.pass_append f hashSize rest first, List.length_cons, Nat.add_assoc,
      Nat.add_comm 1]

/-- Settles O56: pass 1 over the input is pass 1 over its first `k` bytes and then over the others. -/
theorem splitHashEqualsWholeHash : Obligations.SplitHashEqualsWholeHash := by
  intro B seed hashSize input k hk
  have split (y : Mixer) : Mixer.pass (fastStepFn B) hashSize 0 input y =
      Mixer.pass (fastStepFn B) hashSize k (input.drop k) (Mixer.pass (fastStepFn B) hashSize 0 (input.take k) y) := by
    conv_lhs => rw [← List.take_append_drop k input]
    rw [Mixer.pass_append, List.length_take_of_le hk, Nat.zero_add]
  simp only [hashFn, finishHash, prehashFn, List.drop_zero, split]

/-! ### What the end of a hash command leaves -/

/-- A hash command leaves the configuration, the table and `PFX` as they were. -/
theorem HashMove.configKept (h : HashMove u t) :
    t.seed = u.seed ∧ t.mapSizeBits = u.mapSizeBits ∧ t.hashSize = u.hashSize ∧ t.passes = u.passes
      ∧ t.mapSize = u.mapSize ∧ t.mask = u.mask ∧ t.bm = u.bm ∧ t.pfx = u.pfx := by
  obtain ⟨_, _, _, _, _, _, _, _, _, _, _, -, rfl⟩ := h
  exact ⟨rfl, rfl, rfl, rfl, rfl, rfl, rfl, rfl⟩

/-- `STATUS` at the end of a command that a configured block has accepted (45_hash_sequencer.md R215). -/
theorem statusDone_accepted {x : Status} (hc : x.configured = true) : statusDone (statusAccepted x) = doneStatus := by
  rw [statusAccepted_of_configured hc]
  rfl

/-! ### PREHASH -/

/-- The state PREHASH starts in, the host silent (R230). -/
def prehashStart (s : State) : State := (latched { s with host := [] } 0x03 s.plen 0 1).goto .hinit

theorem step_prehash (hb : s.status.busy = false) (hc : s.status.configured = true) (hsplit : s.inst.hasSplit = true)
    (hh : s.host = [.wr 0x00 0x03]) (hplen : s.plen.toNat ≤ s.inst.inCap) : step s = .next (prehashStart s) := by
  rw [stepRunsCommandWritten s [] 0x03 .prehash hh rfl, exec_prehash, execPrehash,
    prehashError_of (s := { s with host := [] }) hsplit hc hplen, acceptance_of_accepted (s := { s with host := [] }) hb]
  rfl

theorem hashRunning_prehashStart (hs : Sound s) (hc : s.status.configured = true) (hplen : s.plen.toNat ≤ s.inst.inCap) :
    HashRunning (prehashStart s) :=
  ⟨statusOk_accepted _, rfl, hs.config hc, hashOk_latched_single (cmd := 0x03) (m := 0)
    (hs.withHost [] s.rdata s.freeReads s.epoch) hc (.inr (.inl rfl)) (Nat.zero_le _) hplen⟩

/-- PREHASH ends where another command goes on to pass 2 (45_hash_sequencer.md R212). -/
theorem decideNext_of_prehash (hp : s.n.toNat ≤ s.p.toNat) (h1 : s.ph = 1) (hc : s.cmd = 0x03) :
    decideNext s = endHash s := by
  rw [decideNext, if_neg (Nat.not_lt.mpr hp), if_pos ⟨h1, hc⟩]

/-- A hash command has ended after pass 1 and left the mix states `x` and every byte (R230). -/
structure Snapshot (u : State) (x : Nat → Mixer) (t : State) : Prop extends HashState u u.hashSize.toNat t where
  status : t.status = statusDone u.status
  upc : t.upc = 0
  mixers : ∀ k < u.nb.toNat, mixerOf t k = x k

/-- PREHASH runs HINIT and pass 1 over the effective input. -/
theorem run_prehash (r : HashRunning u) (hh : u.host = []) (hc : u.cmd = 0x03) (hu : u.upc = microAddress .hinit) :
    ∃ t, runSteps (1 + u.n.toNat * positionSteps u 1) u = .next t
      ∧ Snapshot u (fun k => prehashFn (tableOf u) u.seed u.hashSize.toNat (effectiveInput u k)) t := by
  have init : step u = .next (decideNext (hashInitial u)) :=
    (step_eq_exec hh hu (by decide)).trans (execHinit_of r.nb_le r.hashSize_le)
  have start : AtDecide u 1 0 (fun k => prehashFn (tableOf u) u.seed u.hashSize.toNat (effectiveInput u k))
      (hashInitial u) :=
    ⟨inPass_hashInitial r, rfl, fun k hk => by rw [mixerOf_hashInitial r hk]; rfl⟩
  obtain ⟨v, run, done⟩ := start.run_pass r hh (by decide) (Nat.zero_le _)
  obtain ⟨hcmd, hn, -⟩ := done.move.latches
  rw [decideNext_of_prehash (by rw [done.position, hn]) done.pass (hcmd.trans hc)] at run
  refine ⟨endHash v, (runSteps_add_of (runSteps_succ_of_step init 0) _).trans run, done.toHashState.transfer (.of_eq rfl),
    congrArg statusDone done.status, rfl, fun k hk => ?_⟩
  exact (passRest_end _).symm.trans (done.rest k hk)

/-- PREHASH, from the write of `CMD` to its end (R230). -/
theorem run_prehash_command (hs : Sound s) (hb : s.status.busy = false) (hc : s.status.configured = true)
    (hsplit : s.inst.hasSplit = true) (hh : s.host = [.wr 0x00 0x03]) (hplen : s.plen.toNat ≤ s.inst.inCap) :
    ∃ t, runSteps (1 + (1 + 7 * s.plen.toNat)) s = .next t
      ∧ Snapshot (prehashStart s)
        (fun _ => prehashFn (tableOf s) s.seed s.hashSize.toNat (bytesOf s (.inp 0) s.plen.toNat)) t := by
  obtain ⟨t, run, ended⟩ := run_prehash (hashRunning_prehashStart hs hc hplen) rfl rfl rfl
  have steps : 1 + (prehashStart s).n.toNat * positionSteps (prehashStart s) 1 = 1 + 7 * s.plen.toNat :=
    congrArg (1 + ·) (Nat.mul_comm _ _)
  have single : (prehashStart s).cmd ≠ 5 := (by decide : (0x03 : Byte) ≠ 5)
  simp only [effectiveInput_of_single single] at ended
  refine ⟨t, ?_, ended⟩
  rw [runSteps_add_of (runSteps_succ_of_step (step_prehash hb hc hsplit hh hplen) 0), ← steps]
  exact run

/-- Settles O53: what PREHASH leaves in context 0 is its snapshot, and a snapshot changes no byte. -/
theorem prehashLeavesTheSnapshot : Obligations.PrehashLeavesTheSnapshot := by
  intro s hs hb hc hsplit hh hplen
  obtain ⟨t, run, ended⟩ := run_prehash_command hs hb hc hsplit hh hplen
  exact ⟨t, run, ended.status.trans (statusDone_accepted hc), ended.upc, ended.mixers 0 Nat.one_pos,
    ended.move.configKept, fun sp a => (ended.byte_of_digests sp a).trans (peekByte_of_memories rfl rfl rfl rfl sp a),
    fun k hk => ended.others k (Nat.one_le_iff_ne_zero.mpr hk)⟩

/-! ### POSTHASH -/

/-- The state POSTHASH starts in, the host silent (R233). -/
def posthashStart (s : State) : State := (latched { s with host := [] } 0x04 s.len s.plen 1).goto .resume

theorem step_posthash (hb : s.status.busy = false) (hc : s.status.configured = true) (hsplit : s.inst.hasSplit = true)
    (hh : s.host = [.wr 0x00 0x04]) (hlen : s.len.toNat ≤ s.inst.inCap) (hplen : s.plen.toNat ≤ s.len.toNat) :
    step s = .next (posthashStart s) := by
  rw [stepRunsCommandWritten s [] 0x04 .posthash hh rfl, exec_posthash, execPosthash,
    posthashError_of (s := { s with host := [] }) hsplit hc hlen hplen,
    acceptance_of_accepted (s := { s with host := [] }) hb]
  rfl

theorem hashRunning_posthashStart (hs : Sound s) (hc : s.status.configured = true) (hlen : s.len.toNat ≤ s.inst.inCap)
    (hplen : s.plen.toNat ≤ s.len.toNat) : HashRunning (posthashStart s) :=
  ⟨statusOk_accepted _, rfl, hs.config hc, hashOk_latched_single (cmd := 0x04)
    (hs.withHost [] s.rdata s.freeReads s.epoch) hc (.inr (.inr rfl)) hplen hlen⟩

/-- The state RESUME applies `DECIDE` to (R232). -/
def resumed (u : State) : State := { u with p := u.m, idx := u.m % u.hashSize, kc := 0, ph := 1 }

/-- RESUME is at position `m` of pass 1, nothing else touched. -/
theorem inPass_resumed (u : State) : InPass u 1 u.m.toNat (resumed u) where
  move := ⟨_, _, _, _, _, _, _, _, _, _, _, rfl, rfl⟩
  bytes sp a _ := peekByte_of_memories rfl rfl rfl rfl sp a
  others _ _ := rfl
  status := rfl
  position := rfl
  lane := BitVec.toNat_umod
  pass := rfl

/-- A command that starts at RESUME finishes the hash from the mix states it finds (R233). -/
theorem run_posthash (r : HashRunning u) (hh : u.host = []) (hc : u.cmd ≠ 0x03) (hu : u.upc = microAddress .resume)
    (hm : u.m.toNat ≤ u.n.toNat) :
    ∃ t, runSteps (1 + ((u.n.toNat - u.m.toNat) * positionSteps u 1 + (u.n.toNat * positionSteps u 2
        + u.hashSize.toNat * (u.nb.toNat * 30)))) u = .next t
      ∧ Hashed u (fun k => finishHash (tableOf u) u.hashSize.toNat u.m.toNat (effectiveInput u k) (mixerOf u k)) t := by
  have resume : step u = .next (decideNext (resumed u)) := (step_eq_exec hh hu (by decide)).trans (execResume_eq u)
  obtain ⟨t, run, hashed⟩ := (inPass_resumed u).run_finish r hh hc hm rfl
    fun k _ => (rfl : mixerOf (resumed u) k = mixerOf u k)
  exact ⟨t, (runSteps_add_of (runSteps_succ_of_step resume 0) _).trans run, hashed⟩

/-- A command on context 0 alone changes no byte but those of its digest. -/
theorem Hashed.byte_of_single (h : Hashed u d t) (hn : u.nb = 1) {sp : ByteSpace} {a : Nat}
    (ha : ¬(sp = .out 0 ∧ a < u.hashSize.toNat)) : t.peekByte sp a = u.peekByte sp a := by
  refine h.bytes sp a fun ⟨k, hk, hsp, _, hlt⟩ => ha ⟨?_, hlt⟩
  rw [hn] at hk
  rw [hsp, Nat.lt_one_iff.mp hk]

/-- The counts of R233. -/
theorem posthash_steps (n m size : Nat) (hn : u.nb = 1) :
    1 + ((n - m) * positionSteps u 1 + (n * positionSteps u 2 + size * (u.nb.toNat * 30))) =
      1 + 7 * (n - m) + 30 * n + 30 * size := by
  have fast : positionSteps u 1 = 7 := by rw [positionSteps, hn]; rfl
  have whole := hash_steps (u := u) n size hn
  rw [fast] at whole ⊢
  omega

/-- Settles O54: acceptance leads to RESUME, and `run_posthash` finishes the hash from there. -/
theorem posthashFinishesTheHash : Obligations.PosthashFinishesTheHash := by
  intro s hs hb hc hsplit hh hlen hplen
  obtain ⟨t, run, hashed⟩ := run_posthash (hashRunning_posthashStart hs hc hlen hplen) rfl
    (by decide : (0x04 : Byte) ≠ 0x03) rfl hplen
  rw [posthash_steps _ _ _ rfl] at run
  have digest := hashed.digest 0 Nat.one_pos
  rw [effectiveInput_of_single (by decide : (0x04 : Byte) ≠ 5)] at digest
  refine ⟨t, ?_, hashed.status.trans (statusDone_accepted hc), hashed.upc, digest, hashed.move.configKept,
    fun sp a ha => ?_, fun k hk => hashed.others k (Nat.one_le_iff_ne_zero.mpr hk)⟩
  · rw [runSteps_add_of (runSteps_succ_of_step (step_posthash hb hc hsplit hh hlen hplen) 0)]
    exact run
  · exact (hashed.byte_of_single rfl ha).trans (peekByte_of_memories rfl rfl rfl rfl sp a)

/-! ### HASHBATCH -/

/-- The state HASHBATCH starts in, the host silent (R235). -/
def batchStart (s : State) : State := (latched { s with host := [] } 0x05 (s.plen + s.len) s.plen s.nbatch).goto .hinit

section
variable (hc : s.status.configured = true) (hbatch : s.inst.hasBatch = true) (hlen : s.len.toNat ≤ s.inst.inCap)
  (hplen : s.plen.toNat ≤ s.inst.inCap) (hsum : s.plen.toNat + s.len.toNat < 2 ^ 64) (hpos : 1 ≤ s.nbatch.toNat)
  (hn : s.nbatch.toNat ≤ s.nCtx)
include hc hbatch hlen hplen hsum hpos hn

theorem step_hashbatch (hb : s.status.busy = false) (hh : s.host = [.wr 0x00 0x05]) : step s = .next (batchStart s) := by
  rw [stepRunsCommandWritten s [] 0x05 .hashbatch hh rfl, exec_hashbatch, execHashbatch,
    hashbatchError_of (s := { s with host := [] }) hbatch hc hlen hplen hsum hpos hn,
    acceptance_of_accepted (s := { s with host := [] }) hb]
  rfl

theorem hashRunning_batchStart (hs : Sound s) : HashRunning (batchStart s) :=
  ⟨statusOk_accepted _, rfl, hs.config hc, hashOk_latched_batch (s := { s with host := [] })
    (hashbatchError_of (s := { s with host := [] }) hbatch hc hlen hplen hsum hpos hn)⟩

end

theorem batchStart_n (hsum : s.plen.toNat + s.len.toNat < 2 ^ 64) :
    (batchStart s).n.toNat = s.plen.toNat + s.len.toNat :=
  (BitVec.toNat_add _ _).trans (Nat.mod_eq_of_lt hsum)

/-- The effective input of context `k` in a batch is `PFX` and then the input of that context (R237). -/
theorem effectiveInput_batchStart (hsum : s.plen.toNat + s.len.toNat < 2 ^ 64) (k : Nat) :
    effectiveInput (batchStart s) k = bytesOf s .pfx s.plen.toNat ++ bytesOf s (.inp k) s.len.toNat := by
  have hm : (batchStart s).m.toNat = s.plen.toNat := rfl
  have hcmd : (batchStart s).cmd = 5 := rfl
  have bytes (sp : ByteSpace) (a : Nat) : (batchStart s).peekByte sp a = s.peekByte sp a :=
    peekByte_of_memories rfl rfl rfl rfl sp a
  refine List.ext_getElem (by simp [batchStart_n hsum]) fun q _ _ => ?_
  simp only [effectiveInput, bytesOf, List.getElem_map, List.getElem_range, List.getElem_append, List.length_map,
    List.length_range, if_pos hcmd, hm, bytes]
  split_ifs <;> rfl

/-- The counts of R236. -/
theorem batch_steps (n size : Nat) :
    1 + (n * positionSteps u 1 + (n * positionSteps u 2 + size * (u.nb.toNat * 30))) =
      1 + n * (6 * u.nb.toNat + 1) + n * (29 * u.nb.toNat + 1) + 30 * size * u.nb.toNat := by
  have fast : positionSteps u 1 = u.nb.toNat * 6 + 1 := rfl
  have full : positionSteps u 2 = u.nb.toNat * 29 + 1 := rfl
  rw [fast, full]
  ring

/-- Settles O55: acceptance leads to HINIT, and `run_hash` follows all contexts at once from there. -/
theorem batchHashesEveryInput : Obligations.BatchHashesEveryInput := by
  intro s hs hb hc hbatch hh hlen hplen hsum hpos hn
  obtain ⟨t, run, hashed⟩ := run_hash (hashRunning_batchStart hc hbatch hlen hplen hsum hpos hn hs) rfl
    (by decide : (0x05 : Byte) ≠ 0x03) rfl
  rw [batch_steps, batchStart_n hsum] at run
  refine ⟨t, ?_, hashed.status.trans (statusDone_accepted hc), hashed.upc, fun k hk => ?_, hashed.move.configKept,
    hashed.others⟩
  · rw [runSteps_add_of (runSteps_succ_of_step (step_hashbatch hc hbatch hlen hplen hsum hpos hn hb hh) 0)]
    exact run
  · have digest := hashed.digest k hk
    rw [effectiveInput_batchStart hsum] at digest
    exact digest

end Sys2Proof.Machine

/-! What the host is still to do and the value it read last are no part of what the block does (log 7, log 8): every operation
answers the same under another host. -/

namespace Sys2Proof.Machine

open Sys2Proof

variable {s t : State} {f f' : State → Result} {host : List HostEvent} {r : Word} {k : Instr}

/-! ### A state under another host -/

/-- `s` with other acts of the host to come and another value read last. -/
def State.facing (s : State) (host : List HostEvent) (r : Word) : State := { s with host := host, rdata := r }

/-- The same outcome, the next state under another host. -/
def facingResult (host : List HostEvent) (r : Word) : Result → Result
  | .next t => .next (t.facing host r)
  | .fault e => .fault e
  | .refused e => .refused e

/-- The meaning `f` answers the same under another host. -/
def HostBlind (f : State → Result) : Prop :=
  ∀ (s : State) (host : List HostEvent) (r : Word), f (s.facing host r) = facingResult host r (f s)

theorem next_facing {t' : State} (h : t' = t.facing host r) : Host.Outcome.next t' = facingResult host r (.next t) :=
  congrArg Host.Outcome.next h

theorem withCtx_facing {g g' : Ctx → Result} (h : ∀ c, g' c = facingResult host r (g c)) :
    withCtx (s.facing host r) g' = facingResult host r (withCtx s g) := by
  have same : (s.facing host r).ctxs[(s.facing host r).kc.toNat]? = s.ctxs[s.kc.toNat]? := rfl
  rw [withCtx, withCtx, same]
  cases s.ctxs[s.kc.toNat]? with
  | none => rfl
  | some c => exact h c

theorem orFault_facing {α : Type} {x : Option α} {g g' : α → Result} (h : ∀ a, g' a = facingResult host r (g a)) :
    orFault x g' = facingResult host r (orFault x g) := by
  cases x with
  | none => rfl
  | some a => exact h a

/-- The same after a store: what goes on is the state under the other host. -/
theorem orFault_store_facing {x x' : Option State} (hx : x' = x.map (·.facing host r))
    (h : ∀ t, f' (t.facing host r) = facingResult host r (f t)) : orFault x' f' = facingResult host r (orFault x f) := by
  subst hx
  cases x with
  | none => rfl
  | some t => exact h t

theorem pokeByte_facing (sp : ByteSpace) (a : Nat) (v : Byte) :
    (s.facing host r).pokeByte sp a v = (s.pokeByte sp a v).facing host r := by
  cases sp with
  | bm => rfl
  | pfx => rfl
  | inp k => rfl
  | out k => rfl

theorem writeByte_facing (sp : ByteSpace) (a : Nat) (v : Byte) :
    (s.facing host r).writeByte sp a v = (s.writeByte sp a v).map (·.facing host r) := by
  rw [State.writeByte, State.writeByte, apply_ite (Option.map _), pokeByte_facing]
  rfl

theorem writeLane_facing (q a : Nat) (v : Word) :
    (s.facing host r).writeLane q a v = (s.writeLane q a v).map (·.facing host r) := by
  rw [State.writeLane, State.writeLane, apply_ite (Option.map _)]
  rfl

/-! ### The transfers of control (45_hash_sequencer.md R212) -/

theorem decideNext_facing (s : State) (host : List HostEvent) (r : Word) :
    decideNext (s.facing host r) = (decideNext s).facing host r := by
  simp only [decideNext, apply_ite (State.facing · host r)]
  rfl

theorem nextContext_facing (s : State) (host : List HostEvent) (r : Word) :
    nextContext (s.facing host r) = (nextContext s).facing host r := by
  simp only [nextContext, apply_ite (State.facing · host r)]
  rfl

theorem afterStep_facing (s : State) (host : List HostEvent) (r : Word) :
    afterStep (s.facing host r) = (afterStep s).facing host r := by
  simp only [afterStep, nextContext, apply_ite (State.facing · host r)]
  rfl

theorem afterEmit_facing (s : State) (host : List HostEvent) (r : Word) :
    afterEmit (s.facing host r) = (afterEmit s).facing host r := by
  simp only [afterEmit, apply_ite (State.facing · host r)]
  rfl

theorem shufNext_facing (s : State) (host : List HostEvent) (r : Word) :
    shufNext (s.facing host r) = (shufNext s).facing host r := by
  simp only [shufNext, apply_ite (State.facing · host r)]
  rfl

/-! ### The shapes of micro-operation -/

theorem wordLine_facing (x : Ctx → Ctx) (k : Instr) :
    wordLine (s.facing host r) x k = facingResult host r (wordLine s x k) :=
  withCtx_facing fun _ => rfl

theorem probeLine_facing (x : Ctx → Word) (y : Ctx → Word → Ctx) (k : Instr) :
    probeLine (s.facing host r) x y k = facingResult host r (probeLine s x y k) :=
  withCtx_facing fun _ => orFault_facing fun _ => rfl

theorem laneLine_facing (y : Ctx → Word → Ctx) (k : Instr) :
    laneLine (s.facing host r) y k = facingResult host r (laneLine s y k) :=
  withCtx_facing fun _ => orFault_facing fun _ => rfl

theorem laneProbeLine_facing (x : Ctx → Word → Word) (y : Ctx → Word → Word → Ctx) (k : Instr) :
    laneProbeLine (s.facing host r) x y k = facingResult host r (laneProbeLine s x y k) :=
  withCtx_facing fun _ => orFault_facing fun _ => orFault_facing fun _ => rfl

theorem storeLane_facing (v : Word) (k : Instr) :
    storeLane (s.facing host r) v k = facingResult host r (storeLane s v k) :=
  orFault_store_facing (writeLane_facing _ _ _) fun _ => rfl

theorem execRedEmit_facing : HostBlind execRedEmit := fun _ host r =>
  withCtx_facing fun _ => orFault_facing fun _ => orFault_facing fun _ => orFault_facing fun _ =>
    orFault_store_facing (writeByte_facing _ _ _) fun t => next_facing (afterEmit_facing t host r)

theorem execHinit_facing : HostBlind execHinit := fun s host r => by
  have next := next_facing (decideNext_facing
    { s with ctxs := initialContexts s, p := 0, idx := 0, kc := 0, ph := 1 } host r)
  rw [execHinit, execHinit, apply_ite (facingResult host r), apply_ite (facingResult host r)]
  exact ite_congr rfl (fun _ => ite_congr rfl (fun _ => next) fun _ => rfl) fun _ => rfl

theorem execLdin_facing : HostBlind execLdin := fun s host r =>
  orFault_facing fun b => by
    simp only [facingResult, apply_ite (State.facing · host r)]
    rfl

/-! ### The builder and acceptance -/

theorem execCheck_facing : HostBlind execCheck := fun s host r => by
  have same : checkError (s.facing host r) = checkError s := rfl
  rw [execCheck, execCheck, same]
  cases checkError s with
  | some e => rfl
  | none => rfl

theorem execFill_facing : HostBlind execFill := fun s host r =>
  orFault_store_facing (writeByte_facing _ _ _) fun t => by
    rw [apply_ite (facingResult host r), apply_ite (facingResult host r)]
    rfl

theorem exchange_facing (h : ∀ t, f' (t.facing host r) = facingResult host r (f t)) (a b : Nat) :
    exchange (s.facing host r) a b f' = facingResult host r (exchange s a b f) :=
  orFault_facing fun _ => orFault_facing fun _ => orFault_store_facing (writeByte_facing _ _ _) fun _ =>
    orFault_store_facing (writeByte_facing _ _ _) h

theorem execShuf_facing : HostBlind execShuf := fun s host r => by
  rw [execShuf, execShuf, apply_ite (facingResult host r)]
  refine ite_congr rfl (fun _ => exchange_facing (fun t => ?_) _ _) fun _ => rfl
  exact next_facing (shufNext_facing { t with r := _, j := _ } host r)

theorem acceptance_facing {o : Byte} {e : Option BlockError} {latch latch' : State → State}
    (h : latch' (accepted (s.facing host r)) = (latch (accepted s)).facing host r) :
    acceptance (s.facing host r) o e latch' k = facingResult host r (acceptance s o e latch k) := by
  have busy : (s.facing host r).status.busy = s.status.busy := rfl
  cases hb : s.status.busy with
  | true => rw [acceptance_of_busy hb, acceptance_of_busy (busy.trans hb)]; rfl
  | false =>
    cases e with
    | some e => rw [acceptance_of_failed hb, acceptance_of_failed (busy.trans hb)]; rfl
    | none => rw [acceptance_of_accepted hb, acceptance_of_accepted (busy.trans hb), h]; rfl

/-! ### Every operation -/

/-- No operation sees the host. -/
theorem exec_facing (i : Instr) : HostBlind (exec i) := by
  intro s host r
  cases i
  case init | hash | prehash | posthash | hashbatch =>
    simp only [exec_init, execInit, exec_hash, execHash, exec_prehash, execPrehash, exec_posthash, execPosthash,
      exec_hashbatch, execHashbatch]
    exact acceptance_facing rfl
  case check => exact execCheck_facing s host r
  case fill => exact execFill_facing s host r
  case shuf => exact execShuf_facing s host r
  case fsB => exact withCtx_facing fun _ => orFault_facing fun _ => rfl
  case fsAs => exact wordLine_facing _ _
  case fsS1 | stL26 => exact laneLine_facing _ _
  case fsHs => exact withCtx_facing fun _ => storeLane_facing _ _
  case fsRot => exact withCtx_facing fun _ => next_facing (nextContext_facing (s.setCtx _) host r)
  case stL05 => exact withCtx_facing fun _ => orFault_facing fun _ => storeLane_facing _ _
  case stL27 => exact laneProbeLine_facing _ _ _
  case stRot => exact withCtx_facing fun _ => next_facing (afterStep_facing (s.setCtx _) host r)
  case redLoad => exact orFault_facing fun _ => rfl
  case redEmit => exact execRedEmit_facing s host r
  case hinit => exact execHinit_facing s host r
  case ldin => exact execLdin_facing s host r
  case adv => exact next_facing (decideNext_facing { s with p := _, idx := _ } host r)
  case resume => exact next_facing (decideNext_facing { s with p := _, idx := _, kc := 0, ph := 1 } host r)
  all_goals exact probeLine_facing _ _ _

theorem uopStep_facing : HostBlind uopStep := by
  intro s host r
  have same : (s.facing host r).upc = s.upc := rfl
  rw [uopStep, uopStep, same]
  cases decodeUop s.upc with
  | ok i => exact exec_facing i s host r
  | error e =>
    cases e with
    | idle => rfl
    | _ => rfl

theorem commandWrite_facing (w : Word) : HostBlind (commandWrite · w) := by
  intro s host r
  cases hd : decodeCommand w with
  | ok i =>
    simp only [commandWrite_of_ok _ hd]
    exact exec_facing i s host r
  | error e =>
    simp only [commandWrite_of_error _ hd, rejectCommand, facingResult, apply_ite (State.facing · host r)]
    rfl

/-- Nor does one touch it. -/
theorem HostBlind.host_eq (h : HostBlind f) (ht : f s = .next t) : t.host = s.host := by
  have same : f s = facingResult s.host s.rdata (f s) := h s s.host s.rdata
  rw [ht] at same
  have kept : t = t.facing s.host s.rdata := Host.Outcome.next.inj same
  rw [kept]
  rfl

end Sys2Proof.Machine

/-! The lines a host writes (30_encoding.md R97, R98): a command with a WAIT after it runs as it does under a silent host, and
PREHASH k; POSTHASH L, k leaves the digest of HASH L (46_optional_commands.md R234). -/

namespace Sys2Proof.Machine

open Sys2Proof

variable {s t v : State} {rest : List HostEvent} {len k r w : Word} {a : BitVec 8} {q : Csr} {n : Nat}

/-! ### Runs -/

theorem runSteps_succ_eq_next (h : runSteps (n + 1) s = .next t) : ∃ v, step s = .next v ∧ runSteps n v = .next t := by
  rw [runSteps] at h
  cases hs : step s with
  | next v =>
    rw [hs] at h
    exact ⟨v, rfl, h⟩
  | fault e =>
    rw [hs] at h
    cases h
  | refused e =>
    rw [hs] at h
    cases h

theorem runSteps_keeps_sound (hs : Sound s) (h : runSteps n s = .next t) : Sound t := by
  induction n generalizing s with
  | zero => exact Host.Outcome.next.inj h ▸ hs
  | succ n ih =>
    obtain ⟨v, first, run⟩ := runSteps_succ_eq_next h
    exact ih (stepKeepsTheInvariant s v hs first) run

theorem Sound.facing (hs : Sound s) (host : List HostEvent) (r : Word) : Sound (s.facing host r) :=
  hs.withHost host r s.freeReads s.epoch

/-! ### Waiting for the end of a command (R97) -/

/-- While the block is busy a WAIT leaves the slot to it; the operation does not see who waits. -/
theorem step_waiting (hb : s.status.busy = true) (hv : uopStep s = .next v) :
    step (s.facing (.wait :: rest) r) = .next (v.facing (.wait :: rest) (statusWord s.status)) := by
  have waits := waitSlot_of_busy (s := s.facing (.wait :: rest) r) (rest := rest) hb
  have blind : uopStep (s.facing (.wait :: rest) (statusWord s.status)) = _ := uopStep_facing s _ _
  rw [hv] at blind
  exact (step_of_wait rfl).trans (waits.trans blind)

/-- A WAIT ends where the command does. -/
theorem step_waited (hb : s.status.busy = false) :
    step (s.facing (.wait :: rest) r) = .next (s.facing rest (statusWord s.status)) := by
  have ends : waitSlot (s.facing (.wait :: rest) r) rest = .next (s.facing rest (statusWord s.status)) :=
    if_neg (ne_true_of_eq_false hb)
  exact (step_of_wait rfl).trans ends

/-- A run that ends idle under a silent host ends the same way, if later, under a host that waits for it. -/
theorem run_waiting (hs : Sound s) (hh : s.host = []) (run : runSteps n s = .next t) (hb : t.status.busy = false)
    (rest : List HostEvent) (r : Word) :
    ∃ m, runSteps m (s.facing (.wait :: rest) r) = .next (t.facing rest (statusWord t.status)) := by
  induction n generalizing s r with
  | zero =>
    obtain rfl := Host.Outcome.next.inj run
    exact ⟨1, runSteps_succ_of_step (step_waited hb) 0⟩
  | succ n ih =>
    obtain ⟨v, first, run⟩ := runSteps_succ_eq_next run
    rw [step_of_silent hh] at first
    cases busy : s.status.busy with
    | true =>
      obtain ⟨m, run⟩ := ih (uopStep_keeps_sound hs first) ((uopStep_facing.host_eq first).trans hh) run
        (statusWord s.status)
      exact ⟨m + 1, (runSteps_succ_of_step (step_waiting busy first) m).trans run⟩
    | false =>
      obtain ⟨idle, -⟩ := hs.idle_of_not_busy busy
      rw [uopStep, idle] at first
      obtain rfl := Host.Outcome.next.inj first
      exact ih hs hh run r

/-- A command the host writes and waits for ends as it does under a host that is silent after the write. -/
theorem run_command_and_wait (hs : Sound s) (run : runSteps (1 + n) (s.facing [.wr 0x00 w] r) = .next t)
    (hb : t.status.busy = false) (rest : List HostEvent) :
    ∃ m, runSteps m (s.facing (.wr 0x00 w :: .wait :: rest) r) = .next (t.facing rest (statusWord t.status)) := by
  rw [Nat.add_comm] at run
  obtain ⟨v, first, run⟩ := runSteps_succ_eq_next run
  have accepts : commandWrite (s.facing [] r) w = .next v :=
    (step_of_wr_cmd (s := s.facing [.wr 0x00 w] r) rfl).symm.trans first
  have blind : commandWrite (s.facing (.wait :: rest) r) w =
      facingResult (.wait :: rest) r (commandWrite (s.facing [] r) w) := commandWrite_facing w (s.facing [] r) _ r
  rw [accepts] at blind
  obtain ⟨m, run⟩ := run_waiting (commandWrite_keeps_sound (hs.facing [] r) accepts)
    ((commandWrite_facing w).host_eq accepts) run hb rest r
  have write := step_of_wr_cmd (s := s.facing (.wr 0x00 w :: .wait :: rest) r) rfl
  exact ⟨m + 1, (runSteps_succ_of_step (write.trans blind) m).trans run⟩

/-! ### Writes of the lengths (10_state.md R28) -/

/-- An idle write of a register other than `CMD` stores to it. -/
theorem step_store (hh : s.host = .wr a w :: rest) (hb : s.status.busy = false) (ha : a ≠ 0x00) (hq : csrOf a = some q) :
    step s = .next (csrStore (s.facing rest s.rdata) q w) := by
  rw [step_of_wr hh, hostWrite, if_neg (csrOf_ne_cmd ha), registerWrite_of_idle (s := { s with host := rest }) hb hq]
  rfl

theorem step_wr_len (hh : s.host = .wr 0x06 w :: rest) (hb : s.status.busy = false) :
    step s = .next (({ s with len := w }).facing rest s.rdata) :=
  step_store hh hb (by decide) (rfl : csrOf 0x06 = some .len)

theorem step_wr_plen (hh : s.host = .wr 0x07 w :: rest) (hb : s.status.busy = false) :
    step s = .next (({ s with plen := w }).facing rest s.rdata) :=
  step_store hh hb (by decide) (rfl : csrOf 0x07 = some .plen)

/-! ### The lines HASH, PREHASH and POSTHASH (R98) -/

/-- The lines have run to their end in `t`, and the host goes on with `rest`. -/
structure LinesDone (s : State) (rest : List HostEvent) (t : State) : Prop where
  run : ∃ m, runSteps m s = .next t
  host : t.host = rest
  status : t.status = doneStatus

theorem linesDone_of_command (hs : Sound s) (run : runSteps (1 + n) (s.facing [.wr 0x00 w] r) = .next t)
    (hd : t.status = doneStatus) :
    LinesDone (s.facing (.wr 0x00 w :: .wait :: rest) r) rest (t.facing rest (statusWord t.status)) :=
  ⟨run_command_and_wait hs run (congrArg Status.busy hd) rest, rfl, hd⟩

theorem LinesDone.of_step (h : LinesDone v rest t) (hv : step s = .next v) : LinesDone s rest t := by
  obtain ⟨m, run⟩ := h.run
  exact ⟨⟨m + 1, (runSteps_succ_of_step hv m).trans run⟩, h.host, h.status⟩

theorem LinesDone.trans {rest' : List HostEvent} {u : State} (h : LinesDone s rest t) (h' : LinesDone t rest' u) :
    LinesDone s rest' u := by
  obtain ⟨m, run⟩ := h.run
  obtain ⟨m', run'⟩ := h'.run
  exact ⟨⟨m + m', (runSteps_add_of run m').trans run'⟩, h'.host, h'.status⟩

section
variable (hs : Sound s) (hb : s.status.busy = false) (hc : s.status.configured = true)
include hs hb hc

theorem hash_lines (hh : s.host = pseudoHash len ++ rest) (hlen : len.toNat ≤ s.inst.inCap) :
    ∃ t, LinesDone s rest t
      ∧ digestOf t 0 = hashFn (tableOf s) s.seed s.hashSize.toNat (bytesOf s (.inp 0) len.toNat) := by
  have store := step_wr_len hh hb
  have sound := stepKeepsTheInvariant _ _ hs store
  obtain ⟨t, run, done, -, digest, -⟩ := hashComputesTheDigest (({ s with len := len }).facing [.wr 0x00 0x02] s.rdata)
    (sound.facing _ _) hb hc rfl hlen
  exact ⟨_, (linesDone_of_command (sound.facing _ _) run done).of_step store, digest⟩

/-- After the lines of PREHASH the block is as before but for the mix state of context 0 (R230). -/
theorem prehash_lines (hsplit : s.inst.hasSplit = true) (hh : s.host = pseudoPrehash k ++ rest)
    (hk : k.toNat ≤ s.inst.inCap) :
    ∃ t, LinesDone s rest t ∧ Sound t ∧ t.inst = s.inst ∧ t.hashSize = s.hashSize ∧ tableOf t = tableOf s
      ∧ (∀ sp a, t.peekByte sp a = s.peekByte sp a)
      ∧ mixerOf t 0 = prehashFn (tableOf s) s.seed s.hashSize.toNat (bytesOf s (.inp 0) k.toNat) := by
  have store := step_wr_plen hh hb
  have sound := stepKeepsTheInvariant _ _ hs store
  have start : Sound (({ s with plen := k }).facing [.wr 0x00 0x03] s.rdata) := sound.facing _ _
  obtain ⟨t, run, ended⟩ := run_prehash_command start hb hc hsplit rfl hk
  have done := linesDone_of_command (rest := rest) (sound.facing _ _) run (ended.status.trans (statusDone_accepted hc))
  obtain ⟨hinst, -, hsize, -⟩ := ended.move.kept
  have bytes (sp : ByteSpace) (a : Nat) : t.peekByte sp a = s.peekByte sp a :=
    (ended.byte_of_digests sp a).trans (peekByte_of_memories rfl rfl rfl rfl sp a)
  refine ⟨_, done.of_step store, (runSteps_keeps_sound start run).facing _ _, hinst, hsize, ended.tableOf_eq,
    fun sp a => ?_, ended.mixers 0 Nat.one_pos⟩
  exact (peekByte_of_memories rfl rfl rfl rfl sp a).trans (bytes sp a)

/-- The lines of POSTHASH finish the hash from the mix state of context 0 (R233). -/
theorem posthash_lines (hsplit : s.inst.hasSplit = true) (hh : s.host = pseudoPosthash len k ++ rest)
    (hlen : len.toNat ≤ s.inst.inCap) (hk : k.toNat ≤ len.toNat) :
    ∃ t, LinesDone s rest t
      ∧ digestOf t 0 =
        finishHash (tableOf s) s.hashSize.toNat k.toNat (bytesOf s (.inp 0) len.toNat) (mixerOf s 0) := by
  have first := step_wr_len hh hb
  have second := step_wr_plen
    (s := ({ s with len := len }).facing (.wr 0x07 k :: .wr 0x00 0x04 :: .wait :: rest) s.rdata) rfl hb
  have sound := stepKeepsTheInvariant _ _ (stepKeepsTheInvariant _ _ hs first) second
  obtain ⟨t, run, done, -, digest, -⟩ := posthashFinishesTheHash
    (({ s with len := len, plen := k }).facing [.wr 0x00 0x04] s.rdata) (sound.facing _ _) hb hc hsplit rfl hlen hk
  exact ⟨_, ((linesDone_of_command (sound.facing _ _) run done).of_step second).of_step first, digest⟩

/-- PREHASH k; POSTHASH L, k: what POSTHASH finishes from is the snapshot of the first `k` bytes (R234). -/
theorem split_lines (hsplit : s.inst.hasSplit = true) (hh : s.host = pseudoPrehash k ++ pseudoPosthash len k)
    (hlen : len.toNat ≤ s.inst.inCap) (hk : k.toNat ≤ len.toNat) :
    ∃ t, LinesDone s [] t
      ∧ digestOf t 0 = hashFn (tableOf s) s.seed s.hashSize.toNat (bytesOf s (.inp 0) len.toNat) := by
  obtain ⟨v, pre, sound, hinst, hsize, htable, hbytes, hmixer⟩ :=
    prehash_lines hs hb hc hsplit hh (Nat.le_trans hk hlen)
  obtain ⟨t, post, digest⟩ := posthash_lines (rest := []) sound (congrArg Status.busy pre.status)
    (congrArg Status.configured pre.status) (hinst ▸ hsplit) pre.host (hinst ▸ hlen) hk
  have input : bytesOf v (.inp 0) len.toNat = bytesOf s (.inp 0) len.toNat :=
    List.map_congr_left fun a _ => hbytes _ a
  have first : bytesOf s (.inp 0) k.toNat = (bytesOf s (.inp 0) len.toNat).take k.toNat := by
    rw [bytesOf, bytesOf, ← List.map_take, List.take_range, Nat.min_eq_left hk]
  have whole := splitHashEqualsWholeHash (tableOf s) s.seed s.hashSize.toNat (bytesOf s (.inp 0) len.toNat) k.toNat
    (by simpa using hk)
  refine ⟨t, pre.trans post, ?_⟩
  rw [digest, htable, hsize, hmixer, input, first, whole]

end

/-- Settles O57: both sequences of lines leave the digest `hashFn` gives. -/
theorem splitCommandsGiveTheHash : Obligations.SplitCommandsGiveTheHash := by
  intro s hs hb hc hsplit len k hlen hk
  have sound (host : List HostEvent) : Sound { s with host := host } := hs.withHost host s.rdata s.freeReads s.epoch
  obtain ⟨t, split, digest⟩ := split_lines (sound (pseudoPrehash k ++ pseudoPosthash len k)) hb hc hsplit rfl hlen hk
  obtain ⟨u, whole, digest'⟩ := hash_lines (sound (pseudoHash len)) hb hc (rest := []) rfl hlen
  obtain ⟨x, run⟩ := split.run
  obtain ⟨y, run'⟩ := whole.run
  exact ⟨x, y, t, u, run, run', split.host, whole.host, split.status, whole.status, digest.trans digest'.symm, digest'⟩

end Sys2Proof.Machine

/-! No micro-operation but CHECK records an error (60_exceptions.md R255): what each other one does to STATUS is nothing, or the
successful end of its command. -/

namespace Sys2Proof.Machine

open Sys2Proof

variable {s t : State} {i : Instr} {x y : Status}

/-! ### What a micro-operation does to STATUS -/

/-- STATUS when a micro-operation that raises nothing has run: as it was, or that of a successful end. -/
inductive SuccessStatus (x : Status) : Status → Prop
  | running : SuccessStatus x x
  /-- The end of a hash command (45_hash_sequencer.md R215). -/
  | hashDone : SuccessStatus x (statusDone x)
  /-- The end of INIT (40_bytemap_builder.md R122). -/
  | initDone : SuccessStatus x (statusConfigured x)

/-- Going on and a successful end leave the error fields alone. -/
theorem SuccessStatus.errorKept (h : SuccessStatus x y) :
    y.err = x.err ∧ y.errcode = x.errcode ∧ y.errinfo = x.errinfo := by
  cases h <;> exact ⟨rfl, rfl, rfl⟩

theorem successStatus_decideNext (s : State) : SuccessStatus s.status (decideNext s).status := by
  rcases decideNext_cases s with ⟨-, h⟩ | ⟨-, -, -, h⟩ | ⟨-, -, -, -, h⟩ | ⟨-, -, h⟩ <;> rw [h]
  · exact .running
  · exact .hashDone
  · exact .running
  · exact .running

theorem successStatus_nextContext (s : State) : SuccessStatus s.status (nextContext s).status := by
  rcases nextContext_cases s with ⟨-, h⟩ | ⟨-, h⟩ <;> rw [h] <;> exact .running

theorem successStatus_afterStep (s : State) : SuccessStatus s.status (afterStep s).status := by
  rcases afterStep_cases s with ⟨-, h⟩ | ⟨-, h⟩ <;> rw [h]
  · exact .running
  · exact successStatus_nextContext s

theorem successStatus_afterEmit (s : State) : SuccessStatus s.status (afterEmit s).status := by
  rcases afterEmit_cases s with ⟨-, h⟩ | ⟨-, -, h⟩ | ⟨-, -, h⟩ <;> rw [h]
  · exact .running
  · exact .running
  · exact .hashDone

theorem successStatus_shufNext (s : State) : SuccessStatus s.status (shufNext s).status := by
  obtain ⟨_, _, -, -, ⟨-, h⟩ | ⟨-, h⟩⟩ := shufNext_cases s <;> rw [h]
  · exact .initDone
  · exact .running

theorem execFill_successStatus (h : execFill s = .next t) : SuccessStatus s.status t.status := by
  obtain ⟨-, v, ⟨-, rfl⟩ | ⟨-, rfl⟩ | ⟨-, rfl⟩⟩ := execFill_eq_next h
  · exact .running
  · exact .initDone
  · exact .running

/-- A micro-operation other than CHECK goes on or ends its command successfully; the five commands are no micro-operations. -/
theorem exec_successStatus (hi : i ∉ commands) (hc : i ≠ .check) (h : exec i s = .next t) :
    SuccessStatus s.status t.status := by
  cases i
  case init | hash | prehash | posthash | hashbatch => exact absurd (by decide) hi
  case check => exact absurd rfl hc
  case fill => exact execFill_successStatus h
  case shuf =>
    obtain ⟨b, x, y, r, j, -, -, rfl⟩ := execShuf_eq_next h
    exact successStatus_shufNext { (s.pokeByte .bm s.i.toNat x).pokeByte .bm b y with r := r, j := j }
  case fsB =>
    obtain ⟨v, rfl⟩ := execFsB_eq_next h
    exact .running
  case fsHs =>
    obtain ⟨-, v, rfl⟩ := execFsHs_eq_next h
    exact .running
  case stL05 =>
    obtain ⟨-, v, rfl⟩ := execStL05_eq_next h
    exact .running
  case fsRot =>
    obtain ⟨c, -, rfl⟩ := execFsRot_eq_next h
    exact successStatus_nextContext (s.setCtx (rotate c))
  case stRot =>
    obtain ⟨c, -, rfl⟩ := execStRot_eq_next h
    exact successStatus_afterStep (s.setCtx (rotate c))
  case redLoad =>
    obtain ⟨v, rfl⟩ := execRedLoad_eq_next h
    exact .running
  case redEmit =>
    obtain ⟨-, v, rfl⟩ := execRedEmit_eq_next h
    exact successStatus_afterEmit (s.pokeByte (.out s.kc.toNat) s.i.toNat v)
  case hinit =>
    obtain ⟨-, -, rfl⟩ := execHinit_eq_next h
    exact successStatus_decideNext { s with ctxs := initialContexts s, p := 0, idx := 0, kc := 0, ph := 1 }
  case ldin =>
    obtain ⟨b, ⟨-, rfl⟩ | ⟨-, rfl⟩⟩ := execLdin_eq_next h <;> exact .running
  case adv =>
    obtain rfl := Host.Outcome.next.inj h
    exact successStatus_decideNext { s with p := s.p + 1, idx := if s.idx + 1 = s.hashSize then 0 else s.idx + 1 }
  case resume =>
    obtain rfl := Host.Outcome.next.inj h
    exact successStatus_decideNext { s with p := s.m, idx := s.m % s.hashSize, kc := 0, ph := 1 }
  all_goals
    obtain ⟨c, d, -, -, rfl⟩ := exec_nextLine rfl h
    exact .running

/-! ### A running command has no error -/

/-- A command is not a micro-operation a block can be at. -/
theorem not_mem_commands_of_phaseOk (hp : phaseOk i s) : i ∉ commands := by
  intro hi
  simp only [commands, List.mem_cons, List.not_mem_nil, or_false] at hi
  rcases hi with rfl | rfl | rfl | rfl | rfl <;> exact hp

/-- A sound block at a micro-operation is busy, and what the micro-operation needs holds (10_state.md R24). -/
theorem Sound.running (hs : Sound s) (hi : decodeUop s.upc = .ok i) : s.status.busy = true ∧ phaseOk i s := by
  have hq := hs.sequencer
  rw [sequencerOk, hi] at hq
  exact hq

/-- While a command runs no error is recorded (10_state.md R27). -/
theorem statusOk.noError_of_busy (h : statusOk x) (hb : x.busy = true) : x.err = false ∧ x.errcode = 0 ∧ x.errinfo = 0 := by
  obtain ⟨hbusy, -, hcode, -⟩ := h
  obtain ⟨-, herr⟩ := hbusy hb
  exact ⟨herr, hcode herr⟩

/-- Settles O45: what runs in a sound state answers, and by `exec_successStatus` leaves the error fields, which are zero in a
busy state, alone. -/
theorem acceptedCommandCannotFail : Obligations.AcceptedCommandCannotFail := by
  intro s i hs hi
  obtain ⟨busy, phase⟩ := hs.running hi
  obtain ⟨t, answer⟩ := exec_answers hs busy phase
  refine ⟨t, answer, fun hc => ?_⟩
  have kept := (exec_successStatus (not_mem_commands_of_phaseOk phase) hc answer).errorKept
  obtain ⟨herr, hcode, hinfo⟩ := hs.status.noError_of_busy busy
  rwa [herr, hcode, hinfo] at kept

end Sys2Proof.Machine

/-! The errors and their causes (60_exceptions.md R252 to R256, R267): `checkError` as the chain of tests CHECK makes, and
`commandError` as what acceptance finds, compared with the list of R253. -/

namespace Sys2Proof.Machine

open Sys2Proof

variable {s : State} {w : Word} {i : Instr} {e : BlockError}

/-! ### An idle block (R267) -/

theorem Sound.uopStep_of_not_busy (hs : Sound s) (hb : s.status.busy = false) : uopStep s = .next s := by
  obtain ⟨idle, -⟩ := hs.idle_of_not_busy hb
  rw [uopStep, idle]

/-- Settles O5: `upc` of a sound block that is not busy is idle, whatever the host is still to do. -/
theorem idleBlockChangesNothing : Obligations.IdleBlockChangesNothing := by
  intro s hs hb
  refine ⟨fun hh => ?_, fun rest hh => ?_, fun rest hh => ?_⟩
  · rw [step_of_silent hh, hs.uopStep_of_not_busy hb]
  · rw [step_of_quiet hh]
    exact (hs.withHost rest s.rdata s.freeReads s.epoch).uopStep_of_not_busy hb
  · rw [step_of_wait hh, waitSlot, if_neg (ne_true_of_eq_false hb)]

/-! ### CHECK (R252) -/

theorem firstError_cons (holds : Bool) (e : BlockError) (l : List (Bool × BlockError)) :
    firstError ((holds, e) :: l) = if holds = true then some e else firstError l := rfl

theorem eq_zero_iff_toNat (v : Word) : v = 0#64 ↔ v.toNat = 0 := BitVec.toNat_eq

theorem checkError_eq (s : State) :
    checkError s =
      if s.cHsz.toNat = 0 then some .hashsizeZero
      else if s.cMb.toNat < 8 ∨ 34 < s.cMb.toNat then some .mapbitsRange
      else if s.inst.hsCap < s.cHsz.toNat then some .hashsizeCap
      else if s.inst.bmCapBits < s.cMb.toNat then some .allocationFailure
      else none := by
  simp only [checkError, firstError_cons, firstError_nil, Bool.or_eq_true, decide_eq_true_iff,
    BitVec.ofNat_eq_ofNat, eq_zero_iff_toNat]

theorem exec_check_of_error (h : checkError s = some e) :
    exec .check s = .next { s with
      status := failedStatus false (errcodeOf e) (errinfoOf e)
      seed := 0, mapSizeBits := 0, hashSize := 0, passes := 0, mapSize := 0, mask := 0
      upc := 0 } := by
  rw [exec_check, execCheck, h]
  rfl

theorem exec_check_of_legal (h : checkError s = none) : exec .check s = .next ((latchedConfig s).goto .fill) := by
  rw [exec_check, execCheck, h]
  rfl

/-- Settles O17: the tests stand in `checkError` in the order of the statement. -/
theorem checkReportsTheFirstCause : Obligations.CheckReportsTheFirstCause := by
  intro s failed
  have first := checkError_eq s
  split_ifs at first ⊢
  · exact exec_check_of_error first
  · exact exec_check_of_error first
  · exact exec_check_of_error first
  · exact exec_check_of_error first
  · exact ⟨_, exec_check_of_legal first, rfl, rfl⟩

/-! ### Acceptance (R253) -/

/-- The error the acceptance of a command reports: the first of its checks that fails. -/
def commandError (i : Instr) (s : State) : Option BlockError :=
  match i with
  | .hash => hashError s
  | .prehash => prehashError s
  | .posthash => posthashError s
  | .hashbatch => hashbatchError s
  | _ => none

/-- A command is its acceptance under the checks of `commandError`; its latches are no part of BUSY or ERR (R92). -/
theorem exec_of_encode (h : encode i = .command w) (s : State) :
    ∃ latch k, exec i s = acceptance s (w.setWidth 8) (commandError i s) latch k
      ∧ ∀ u, (latch u).status.busy = u.status.busy ∧ (latch u).status.err = u.status.err := by
  cases i <;> cases h
  case init => exact ⟨_, _, execInit.eq_def s, fun _ => ⟨rfl, rfl⟩⟩
  case hash => exact ⟨_, _, execHash.eq_def s, fun _ => ⟨rfl, rfl⟩⟩
  case prehash => exact ⟨_, _, execPrehash.eq_def s, fun _ => ⟨rfl, rfl⟩⟩
  case posthash => exact ⟨_, _, execPosthash.eq_def s, fun _ => ⟨rfl, rfl⟩⟩
  case hashbatch => exact ⟨_, _, execHashbatch.eq_def s, fun _ => ⟨rfl, rfl⟩⟩

theorem map_errinfoOf_firstError_cons (holds : Bool) (e : BlockError) (l : List (Bool × BlockError)) :
    (firstError ((holds, e) :: l)).map errinfoOf =
      if holds = true then some (errinfoOf e) else (firstError l).map errinfoOf := by
  cases holds <;> rfl

/-- The checks of each command are the tests of R253 at its opcode, in the same order. -/
theorem illegalCause_of_encode (h : encode i = .command w) (s : State) :
    illegalCause s w = (commandError i s).map errinfoOf := by
  cases i <;> cases h
  case init => rfl
  case hash => simp [illegalCause, commandError, hashError, map_errinfoOf_firstError_cons, errinfoOf]
  case prehash => simp [illegalCause, commandError, prehashError, map_errinfoOf_firstError_cons, errinfoOf]
  case posthash => simp [illegalCause, commandError, posthashError, map_errinfoOf_firstError_cons, errinfoOf]
  case hashbatch =>
    simp [illegalCause, commandError, hashbatchError, map_errinfoOf_firstError_cons, errinfoOf, or_assoc,
      eq_zero_iff_toNat]

/-- The words 1 to 5 are the codes of the five commands (30_encoding.md R91). -/
theorem decodeCommand_of_le_five (h1 : 1 ≤ w.toNat) (h5 : w.toNat ≤ 5) : ∃ i, decodeCommand w = .ok i := by
  have word : w = 1#64 ∨ w = 2#64 ∨ w = 3#64 ∨ w = 4#64 ∨ w = 5#64 := by bv_omega
  rcases word with rfl | rfl | rfl | rfl | rfl
  · exact ⟨.init, rfl⟩
  · exact ⟨.hash, rfl⟩
  · exact ⟨.prehash, rfl⟩
  · exact ⟨.posthash, rfl⟩
  · exact ⟨.hashbatch, rfl⟩

/-- A word that is no command fails the first test of R253. -/
theorem illegalCause_of_error {d : DecodeError} (h : decodeCommand w = .error d) (s : State) :
    illegalCause s w = some 1 := by
  refine if_pos (Classical.byContradiction fun passes => ?_)
  obtain ⟨i, hi⟩ := decodeCommand_of_le_five (w := w) (by omega) (by omega)
  cases h.symm.trans hi

theorem firstError_mem {l : List (Bool × BlockError)} (h : firstError l = some e) : (true, e) ∈ l := by
  obtain ⟨p, q, rfl, -⟩ := firstError_eq_some h
  exact List.mem_append_right p (List.mem_cons_self ..)

/-- Every error of acceptance is an IllegalCommand (R250). -/
theorem errcodeOf_of_commandError (h : commandError i s = some e) : errcodeOf e = 3 := by
  have illegal {l : List (Bool × BlockError)} (hl : ∀ x ∈ l, errcodeOf x.2 = 3) (hf : firstError l = some e) :
      errcodeOf e = 3 := hl _ (firstError_mem hf)
  cases i
  case hash => exact illegal (by simp [errcodeOf]) h
  case prehash => exact illegal (by simp [errcodeOf]) h
  case posthash => exact illegal (by simp [errcodeOf]) h
  case hashbatch => exact illegal (by simp [errcodeOf]) h
  all_goals cases h

/-- Settles O7: a word that decodes has the checks of its command, which are those of R253 by `illegalCause_of_encode`; any
other is turned away. -/
theorem illegalCommandCausesInOrder : Obligations.IllegalCommandCausesInOrder := by
  intro s w hb
  cases hd : decodeCommand w with
  | error d =>
    rw [illegalCause_of_error hd, commandWrite_of_error s hd, rejectCommand, if_neg (ne_true_of_eq_false hb), raise_accepted]
    refine ⟨fun info h => ?_, fun h => nomatch h⟩
    obtain rfl := Option.some.inj h
    rfl
  | ok i =>
    have code := encode_of_decodeCommand hd
    obtain ⟨latch, k, accepts, hl⟩ := exec_of_encode code s
    rw [illegalCause_of_encode code, commandWrite_of_ok s hd]
    cases hf : commandError i s with
    | some e =>
      rw [accepts, hf, acceptance_of_failed hb, raise_accepted, errcodeOf_of_commandError hf]
      refine ⟨fun info h => ?_, fun h => nomatch h⟩
      obtain rfl := Option.some.inj h
      rfl
    | none =>
      rw [hf, acceptance_of_accepted hb] at accepts
      obtain ⟨busy, err⟩ := hl (accepted s)
      exact ⟨fun _ h => (nomatch h), fun _ => ⟨i, _, code, rfl, accepts, busy, err, rfl⟩⟩

end Sys2Proof.Machine

/-! The reset event (70_reset_and_hazards.md R280): what `resetEvent` leaves. -/

namespace Sys2Proof.Machine

open Sys2Proof

theorem resetEvent_wordsOf (s : State) : (resetEvent s).ctxs.map wordsOf = List.replicate s.nCtx (0, 0, 0, 0) :=
  List.map_replicate

/-- Settles O41: the step of a reset event is `resetEvent`, whatever was running, and its registers are those of a fresh
block. -/
theorem resetLeavesTheListedValues : Obligations.ResetLeavesTheListedValues := by
  intro s rest
  have zero : statusWord Status.idle = 0 := by decide
  exact ⟨_, step_of_reset rfl, zero, rfl, ⟨rfl, rfl, rfl, rfl, rfl, rfl⟩, ⟨rfl, rfl, rfl, rfl, rfl, rfl, rfl⟩, ⟨rfl, rfl⟩,
    resetEvent_wordsOf _, rfl, rfl⟩

end Sys2Proof.Machine

/-! The end of every command (70_reset_and_hazards.md R290): each micro-operation of a sound block takes one from `stepsLeft`.
How much is left after each control transfer of 45_hash_sequencer.md R212 is said once; the cases of `exec` read it off, and
a run follows by induction on what is left. -/

namespace Sys2Proof.Machine

open Sys2Proof

variable {s t : State} {i k : Instr}

/-! ### What is left, from one micro-operation to the next -/

/-- What is left at a micro-operation does not depend on the micro-address. -/
theorem stepsFrom_goto (i k : Instr) (s : State) : stepsFrom i (s.goto k) = stepsFrom i s := by
  cases i <;> rfl

theorem stepsLeft_of_goto (s : State) (hk : k ∉ commands) : stepsLeft (s.goto k) = stepsFrom k s :=
  (stepsLeft_goto s hk).trans (stepsFrom_goto k k s)

theorem stepsLeft_endHash (s : State) : stepsLeft (endHash s) = 0 := rfl

theorem stepsLeft_endInit (s : State) : stepsLeft (endInit s) = 0 := rfl

theorem stepsLeft_raise (e : BlockError) (s : State) : stepsLeft (raise e s) = 0 := rfl

theorem nextLine_not_command (hk : nextLine i = some k) : k ∉ commands := by
  cases i <;> cases hk <;> decide

/-- A line is one micro-operation more than the line after it. -/
theorem stepsFrom_nextLine (hk : nextLine i = some k) (s : State) : stepsFrom i s = stepsFrom k s + 1 := by
  cases i <;> cases hk <;> exact Nat.succ_add _ _

theorem stepsLeft_of_nextLine (hk : nextLine i = some k) (h : exec i s = .next t) : stepsFrom i s = stepsLeft t + 1 := by
  obtain ⟨c, d, -, -, rfl⟩ := exec_nextLine hk h
  have same : stepsFrom k (s.setCtx d) = stepsFrom k s := by cases k <;> rfl
  rw [stepsLeft_of_goto _ (nextLine_not_command hk), same, stepsFrom_nextLine hk]

/-! ### Positions, contexts and lanes -/

/-- Micro-operations of the running pass, 1 or 2, over `count` positions, and what follows it. -/
def passSteps (s : State) (count : Nat) : Nat := if s.ph = 1 then pass1Steps s count else pass2Steps s count

theorem passSteps_of_pass1 (h : s.ph = 1) (count : Nat) : passSteps s count = pass1Steps s count := if_pos h

theorem passSteps_of_pass2 (h : s.ph = 2) (count : Nat) : passSteps s count = pass2Steps s count :=
  if_neg (by rw [h]; decide)

/-- A position is a turn of each context and an ADV. -/
theorem passSteps_succ (s : State) (count : Nat) :
    passSteps s (count + 1) = turnSteps s.ph * s.nb.toNat + 1 + passSteps s count := by
  unfold passSteps turnSteps
  split
  · rw [pass1Steps, pass1Steps, Nat.succ_mul]
    omega
  · rw [pass2Steps, pass2Steps, Nat.succ_mul]
    omega

/-- A lane is 30 micro-operations of each context. -/
theorem pass3Steps_succ (s : State) (count : Nat) : pass3Steps s (count + 1) = 30 * s.nb.toNat + pass3Steps s count := by
  rw [pass3Steps, pass3Steps]
  ring

theorem pass3Steps_zero (s : State) : pass3Steps s 0 = 0 := by
  rw [pass3Steps, Nat.mul_zero, Nat.zero_mul]

theorem pass2Steps_zero (s : State) : pass2Steps s 0 = pass3Steps s s.hashSize.toNat := by
  rw [pass2Steps, Nat.zero_mul, Nat.zero_add]

theorem pass1Steps_zero_of_prehash (hc : s.cmd = 0x03) : pass1Steps s 0 = 0 := by
  rw [pass1Steps, if_pos hc, Nat.zero_mul]

theorem pass1Steps_zero_of_ne_prehash (hc : s.cmd ≠ 0x03) : pass1Steps s 0 = pass2Steps s s.n.toNat := by
  rw [pass1Steps, if_neg hc, Nat.zero_mul, Nat.zero_add]

theorem stepsFrom_ldin (s : State) :
    stepsFrom .ldin s = turnSteps s.ph * (contextsLeft s + 1) + 1 + passSteps s (positionsLeft s) := by
  simp only [stepsFrom, turnSteps, passSteps]
  split <;> rfl

theorem stepsFrom_adv (s : State) : stepsFrom .adv s = 1 + passSteps s (positionsLeft s) := by
  simp only [stepsFrom, passSteps]
  split <;> rfl

theorem stepsFrom_redLoad (s : State) :
    stepsFrom .redLoad s = 30 * (contextsLeft s + 1) + pass3Steps s s.i.toNat := rfl

/-- Each context has one fewer after it than the one before. -/
theorem contextsLeft_succ (h : s.kc.toNat + 1 < s.nb.toNat) :
    contextsLeft { s with kc := s.kc + 1 } + 1 = contextsLeft s := by
  simp only [contextsLeft]
  bv_omega

/-- At context 0 every context is still to come. -/
theorem contextsLeft_of_first (hk : s.kc = 0) (hn : 1 ≤ s.nb.toNat) : contextsLeft s + 1 = s.nb.toNat := by
  rw [contextsLeft, hk]
  exact Nat.sub_add_cancel hn

/-- LDIN at context 0 begins a whole position. -/
theorem stepsFrom_ldin_of_first (hk : s.kc = 0) (hn : 1 ≤ s.nb.toNat) (hp : s.p.toNat < s.n.toNat) :
    stepsFrom .ldin s = passSteps s (s.n.toNat - s.p.toNat) := by
  have more : s.n.toNat - s.p.toNat = positionsLeft s + 1 := by
    rw [positionsLeft]
    omega
  rw [stepsFrom_ldin, contextsLeft_of_first hk hn, more, passSteps_succ]

/-- RED.LOAD at context 0 begins a whole lane. -/
theorem stepsFrom_redLoad_of_first (hk : s.kc = 0) (hn : 1 ≤ s.nb.toNat) :
    stepsFrom .redLoad s = pass3Steps s (s.i.toNat + 1) := by
  rw [stepsFrom_redLoad, contextsLeft_of_first hk hn, pass3Steps_succ]

/-! ### What is left after each control transfer (45_hash_sequencer.md R212) -/

/-- `DECIDE` leaves the positions of the pass from `p` on, and what follows the pass. -/
theorem HashRunning.stepsLeft_decideNext (r : HashRunning s) (hk : s.kc = 0) (hph : s.ph = 1 ∨ s.ph = 2) :
    stepsLeft (Machine.decideNext s) = passSteps s (s.n.toNat - s.p.toNat) := by
  have hn := r.one_le_nb
  rcases decideNext_cases s with ⟨hp, h⟩ | ⟨hp, h1, hc, h⟩ | ⟨hp, h1, hc, hpos, h⟩ | ⟨hp, hlast, h⟩ <;> rw [h]
  · rw [stepsLeft_of_goto _ (by decide), stepsFrom_ldin_of_first hk hn hp]
  · rw [stepsLeft_endHash, Nat.sub_eq_zero_of_le hp, passSteps_of_pass1 h1, pass1Steps_zero_of_prehash hc]
  · rw [stepsLeft_of_goto _ (by decide), stepsFrom_ldin_of_first (s := { s with ph := 2, p := 0, idx := 0 }) hk hn hpos,
      passSteps_of_pass2 rfl, Nat.sub_eq_zero_of_le hp, passSteps_of_pass1 h1, pass1Steps_zero_of_ne_prehash hc]
    rfl
  · have lanes : (s.hashSize - 1).toNat + 1 = s.hashSize.toNat := by
      have := r.one_le_hashSize
      bv_omega
    have rest : passSteps s 0 = pass3Steps s s.hashSize.toNat := by
      rcases hph with h1 | h2
      · obtain ⟨hc, hempty⟩ := hlast h1
        rw [passSteps_of_pass1 h1, pass1Steps_zero_of_ne_prehash hc, hempty, pass2Steps_zero]
      · rw [passSteps_of_pass2 h2, pass2Steps_zero]
    rw [stepsLeft_of_goto _ (by decide),
      stepsFrom_redLoad_of_first (s := { s with ph := 3, i := s.hashSize - 1 }) hk hn, Nat.sub_eq_zero_of_le hp, rest,
      ← lanes]
    rfl

/-- A rotation in passes 1 and 2 leaves the turns of the later contexts, ADV and the later positions. -/
theorem stepsLeft_nextContext (s : State) :
    stepsLeft (nextContext s) = turnSteps s.ph * contextsLeft s + 1 + passSteps s (positionsLeft s) := by
  rcases nextContext_cases s with ⟨hlt, h⟩ | ⟨hle, h⟩ <;> rw [h, stepsLeft_of_goto _ (by decide)]
  · rw [stepsFrom_ldin, contextsLeft_succ hlt]
    rfl
  · have lastContext : contextsLeft s = 0 := Nat.sub_eq_zero_of_le hle
    rw [stepsFrom_adv, lastContext, Nat.mul_zero, Nat.zero_add]
    rfl

/-- The rotation of a FastStep leaves what comes after the FastStep. -/
theorem stepsLeft_nextContext_of_pass1 (h1 : s.ph = 1) : stepsLeft (nextContext s) = afterFastSteps s := by
  rw [stepsLeft_nextContext, passSteps_of_pass1 h1, h1]
  rfl

/-- The rotation of a Step leaves what comes after the Step. -/
theorem stepsLeft_afterStep (hm : mixOk s) : stepsLeft (afterStep s) = afterMixSteps s := by
  obtain ⟨-, -, -, hpass⟩ := hm
  rcases afterStep_cases s with ⟨h3, h⟩ | ⟨h3, h⟩ <;> rw [h, afterMixSteps]
  · rw [if_pos h3, stepsLeft_of_goto _ (by decide)]
    rfl
  · have h2 : s.ph = 2 := hpass.elim (fun h => h.1) fun h => absurd h.1 h3
    rw [if_neg h3, stepsLeft_nextContext, passSteps_of_pass2 h2, h2]
    rfl

/-- RED.EMIT leaves the later contexts of the lane and the lanes below it. -/
theorem stepsLeft_afterEmit (hk : s.kc.toNat < s.nb.toNat) :
    stepsLeft (afterEmit s) = 30 * contextsLeft s + pass3Steps s s.i.toNat := by
  have last : s.nb.toNat ≤ s.kc.toNat + 1 → contextsLeft s = 0 := Nat.sub_eq_zero_of_le
  rcases afterEmit_cases s with ⟨hlt, h⟩ | ⟨hle, hpos, h⟩ | ⟨hle, hzero, h⟩ <;> rw [h]
  · rw [stepsLeft_of_goto _ (by decide), stepsFrom_redLoad, contextsLeft_succ hlt]
    rfl
  · have below : (s.i - 1).toNat + 1 = s.i.toNat := by bv_omega
    rw [stepsLeft_of_goto _ (by decide),
      stepsFrom_redLoad_of_first (s := { s with kc := 0, i := s.i - 1 }) rfl (Nat.one_le_of_lt hk), below, last hle,
      Nat.mul_zero, Nat.zero_add]
    rfl
  · rw [stepsLeft_endHash, last hle, hzero, pass3Steps_zero]

/-! ### The builder (40_bytemap_builder.md R123) -/

theorem stepsFrom_fill (s : State) :
    stepsFrom .fill s = s.mapSize.toNat - s.i.toNat + s.passes.toNat * s.mapSize.toNat := rfl

theorem stepsFrom_shuf (s : State) :
    stepsFrom .shuf s = s.mapSize.toNat - s.i.toNat + (s.passes.toNat - (s.ps.toNat + 1)) * s.mapSize.toNat := rfl

/-- SHUF at position 0 begins a whole pass. -/
theorem stepsFrom_shuf_of_first (hi : s.i = 0) (hps : s.ps.toNat < s.passes.toNat) :
    stepsFrom .shuf s = (s.passes.toNat - s.ps.toNat) * s.mapSize.toNat := by
  have more : s.passes.toNat - s.ps.toNat = s.passes.toNat - (s.ps.toNat + 1) + 1 := by omega
  rw [stepsFrom_shuf, hi, more, Nat.succ_mul, Nat.add_comm]
  rfl

theorem execCheck_stepsLeft (h : execCheck s = .next t) : stepsFrom .check s = stepsLeft t + 1 := by
  rw [stepsFrom_check_eq]
  cases hc : checkError s with
  | some e =>
    rw [execCheck, hc] at h
    obtain rfl := Host.Outcome.next.inj h
    rw [stepsLeft_raise]
    rfl
  | none =>
    rw [execCheck, hc] at h
    obtain rfl := Host.Outcome.next.inj h
    rw [stepsLeft_of_goto _ (by decide), stepsFrom_fill]
    exact Nat.add_comm 1 _

theorem execFill_stepsLeft (hp : phaseOk .fill s) (h : execFill s = .next t) : stepsFrom .fill s = stepsLeft t + 1 := by
  obtain ⟨build, hps⟩ := hp
  have stored := writeByte_of_has (trunc8 s.i) (hasByte_bm.mpr build.i_lt)
  obtain ⟨-, -, hi⟩ := build
  rw [execFill, stored, orFault_some] at h
  split_ifs at h with hmore hnone <;> obtain rfl := Host.Outcome.next.inj h
  · have position : (s.i + 1).toNat = s.i.toNat + 1 := by bv_omega
    rw [stepsLeft_of_goto _ (by decide), stepsFrom_fill, stepsFrom_fill]
    change _ = s.mapSize.toNat - (s.i + 1).toNat + s.passes.toNat * s.mapSize.toNat + 1
    omega
  · have last : s.mapSize.toNat - s.i.toNat = 1 := by bv_omega
    have noPass : s.passes.toNat = 0 := congrArg BitVec.toNat hnone
    rw [stepsLeft_endInit, stepsFrom_fill, last, noPass, Nat.zero_mul]
  · have last : s.mapSize.toNat - s.i.toNat = 1 := by bv_omega
    have first : s.ps.toNat < s.passes.toNat := by
      rw [hps]
      bv_omega
    rw [stepsLeft_of_goto _ (by decide), stepsFrom_fill, last, Nat.add_comm,
      stepsFrom_shuf_of_first (s := { s.pokeByte .bm s.i.toNat (trunc8 s.i) with i := 0 }) rfl first]
    change _ = (s.passes.toNat - s.ps.toNat) * s.mapSize.toNat + 1
    rw [hps]
    rfl

/-- A shuffle step leaves the later positions of its pass and the later passes. -/
theorem stepsFrom_shuf_eq_stepsLeft_shufNext (hi : s.i.toNat < s.mapSize.toNat) (hps : s.ps.toNat < s.passes.toNat) :
    stepsFrom .shuf s = stepsLeft (shufNext s) + 1 := by
  obtain ⟨i', ps', hi', hps', hcases⟩ := shufNext_cases s
  by_cases wrap : s.i + 1 = s.mapSize
  · rw [if_pos wrap] at hi' hps'
    have last : s.mapSize.toNat - s.i.toNat = 1 := by bv_omega
    have nextPass : ps'.toNat = s.ps.toNat + 1 := by bv_omega
    rw [stepsFrom_shuf, last, ← nextPass]
    rcases hcases with ⟨hdone, h⟩ | ⟨hmore, h⟩ <;> rw [h]
    · rw [stepsLeft_endInit, hdone, Nat.sub_self, Nat.zero_mul]
    · have more : ps'.toNat < s.passes.toNat := by bv_omega
      rw [stepsLeft_of_goto _ (by decide), stepsFrom_shuf_of_first (s := { s with i := i', ps := ps' }) hi' more]
      exact Nat.add_comm 1 _
  · rw [if_neg wrap] at hi' hps'
    have nextPosition : i'.toNat = s.i.toNat + 1 := by bv_omega
    rcases hcases with ⟨hdone, -⟩ | ⟨-, h⟩
    · exact absurd (congrArg BitVec.toNat (hps'.symm.trans hdone)) (Nat.ne_of_lt hps)
    · rw [h, stepsLeft_of_goto _ (by decide), stepsFrom_shuf, stepsFrom_shuf]
      change _ = s.mapSize.toNat - i'.toNat + (s.passes.toNat - (ps'.toNat + 1)) * s.mapSize.toNat + 1
      rw [hps']
      have : i'.toNat < s.mapSize.toNat := by bv_omega
      omega

theorem execShuf_stepsLeft (hp : phaseOk .shuf s) (h : execShuf s = .next t) : stepsFrom .shuf s = stepsLeft t + 1 := by
  obtain ⟨⟨-, -, hi⟩, hps⟩ := hp
  obtain ⟨b, x, y, r, j, -, -, rfl⟩ := execShuf_eq_next h
  exact stepsFrom_shuf_eq_stepsLeft_shufNext
    (s := { (s.pokeByte .bm s.i.toNat x).pokeByte .bm b y with r := r, j := j }) hi hps

/-! ### Every micro-operation takes one (R290) -/

theorem execHinit_stepsLeft (r : HashRunning s) (h : execHinit s = .next t) : stepsFrom .hinit s = stepsLeft t + 1 := by
  obtain ⟨hn, -, rfl⟩ := execHinit_eq_next h
  have r' := r.withCtxs (initialContexts_length hn)
  have left := HashRunning.stepsLeft_decideNext
    (s := { s with ctxs := initialContexts s, p := 0, idx := 0, kc := 0, ph := 1 }) r' rfl (.inl rfl)
  rw [left, passSteps_of_pass1 rfl, stepsFrom_hinit]
  exact Nat.add_comm 1 _

theorem execResume_stepsLeft (r : HashRunning s) (h : execResume s = .next t) :
    stepsFrom .resume s = stepsLeft t + 1 := by
  obtain rfl := Host.Outcome.next.inj h
  have left := HashRunning.stepsLeft_decideNext
    (s := { s with p := s.m, idx := s.m % s.hashSize, kc := 0, ph := 1 }) r rfl (.inl rfl)
  rw [left, passSteps_of_pass1 rfl, stepsFrom_resume]
  exact Nat.add_comm 1 _

theorem execAdv_stepsLeft (r : HashRunning s) (hp : phaseOk .adv s) (h : execAdv s = .next t) :
    stepsFrom .adv s = stepsLeft t + 1 := by
  obtain ⟨-, hk, hph, -, hlt, -⟩ := hp
  obtain rfl := Host.Outcome.next.inj h
  have position : (s.p + 1).toNat = s.p.toNat + 1 := by bv_omega
  have left := HashRunning.stepsLeft_decideNext
    (s := { s with p := s.p + 1, idx := if s.idx + 1 = s.hashSize then 0 else s.idx + 1 }) r hk hph
  rw [left, stepsFrom_adv, positionsLeft, ← position]
  exact Nat.add_comm 1 _

theorem execLdin_stepsLeft (hp : phaseOk .ldin s) (h : execLdin s = .next t) : stepsFrom .ldin s = stepsLeft t + 1 := by
  rw [stepsFrom_ldin]
  obtain ⟨b, ⟨h1, rfl⟩ | ⟨h1, rfl⟩⟩ := execLdin_eq_next h <;> rw [stepsLeft_of_goto _ (by decide)]
  · change _ = 5 + (6 * contextsLeft s + 1 + pass1Steps s (positionsLeft s)) + 1
    rw [passSteps_of_pass1 h1, turnSteps, if_pos h1]
    omega
  · obtain ⟨-, -, hph, -⟩ := hp
    have h2 := hph.resolve_left h1
    have mix : afterMixSteps { s with v2 := zext64 b } = 29 * contextsLeft s + 1 + pass2Steps s (positionsLeft s) :=
      if_neg (by rw [h2]; decide)
    change _ = 28 + afterMixSteps { s with v2 := zext64 b } + 1
    rw [mix, passSteps_of_pass2 h2, turnSteps, if_neg h1]
    omega

theorem execFsRot_stepsLeft (hp : fastOk s) (h : execFsRot s = .next t) : stepsFrom .fsRot s = stepsLeft t + 1 := by
  obtain ⟨-, -, h1, -, -⟩ := hp
  obtain ⟨c, -, rfl⟩ := execFsRot_eq_next h
  rw [stepsLeft_nextContext_of_pass1 (s := s.setCtx (rotate c)) h1]
  exact Nat.add_comm 1 _

theorem execStRot_stepsLeft (hm : mixOk s) (h : execStRot s = .next t) : stepsFrom .stRot s = stepsLeft t + 1 := by
  obtain ⟨c, -, rfl⟩ := execStRot_eq_next h
  rw [stepsLeft_afterStep (s := s.setCtx (rotate c)) ((phaseOk_withCtxs List.length_set .stRot).mpr hm)]
  exact Nat.add_comm 1 _

theorem execRedLoad_stepsLeft (hr : reduceOk s) (h : execRedLoad s = .next t) :
    stepsFrom .redLoad s = stepsLeft t + 1 := by
  obtain ⟨-, -, -, h3, -⟩ := hr
  obtain ⟨v, rfl⟩ := execRedLoad_eq_next h
  have mix : afterMixSteps { s with v2 := v, idx := s.i } = 1 + 30 * contextsLeft s + pass3Steps s s.i.toNat := if_pos h3
  rw [stepsLeft_of_goto _ (by decide), stepsFrom_redLoad]
  change _ = 28 + afterMixSteps { s with v2 := v, idx := s.i } + 1
  rw [mix]
  omega

theorem execRedEmit_stepsLeft (hr : reduceOk s) (h : execRedEmit s = .next t) :
    stepsFrom .redEmit s = stepsLeft t + 1 := by
  obtain ⟨-, hk, -⟩ := hr
  obtain ⟨-, v, rfl⟩ := execRedEmit_eq_next h
  rw [stepsLeft_afterEmit (s := s.pokeByte (.out s.kc.toNat) s.i.toNat v) hk]
  change 1 + 30 * contextsLeft s + pass3Steps s s.i.toNat = 30 * contextsLeft s + pass3Steps s s.i.toNat + 1
  omega

/-- Every micro-operation of a sound block takes one from what is left. -/
theorem exec_stepsLeft (hs : Sound s) (hb : s.status.busy = true) (hp : phaseOk i s) (h : exec i s = .next t) :
    stepsFrom i s = stepsLeft t + 1 := by
  have run : hashOk s → HashRunning s := HashRunning.of_sound hs hb
  cases i
  case init => exact hp.elim
  case hash => exact hp.elim
  case prehash => exact hp.elim
  case posthash => exact hp.elim
  case hashbatch => exact hp.elim
  case check => exact execCheck_stepsLeft h
  case fill => exact execFill_stepsLeft hp h
  case shuf => exact execShuf_stepsLeft hp h
  case fsB =>
    obtain ⟨v, rfl⟩ := execFsB_eq_next h
    exact Nat.succ_add 4 _
  case fsHs =>
    obtain ⟨-, v, rfl⟩ := execFsHs_eq_next h
    exact Nat.succ_add 1 _
  case stL05 =>
    obtain ⟨-, v, rfl⟩ := execStL05_eq_next h
    exact Nat.succ_add 23 _
  case fsRot => exact execFsRot_stepsLeft hp h
  case stRot => exact execStRot_stepsLeft hp h
  case redLoad => exact execRedLoad_stepsLeft hp h
  case redEmit => exact execRedEmit_stepsLeft hp.1 h
  case hinit => exact execHinit_stepsLeft (run hp.1) h
  case ldin => exact execLdin_stepsLeft hp h
  case adv => exact execAdv_stepsLeft (run hp.1) hp h
  case resume => exact execResume_stepsLeft (run hp.1) h
  all_goals exact stepsLeft_of_nextLine rfl h

/-! ### A running command and its end -/

theorem upc_of_idle (h : decodeUop s.upc = .error .idle) : s.upc = 0 := by
  unfold decodeUop at h
  split_ifs at h with h0
  · exact h0
  · split at h <;> cases h

/-- A sound block with nothing left to run is idle. -/
theorem Sound.idle_of_stepsLeft_eq_zero (hs : Sound s) (h : stepsLeft s = 0) : s.upc = 0 ∧ s.status.busy = false := by
  have hq := hs.sequencer
  unfold sequencerOk at hq
  split at hq
  · next i hi =>
    obtain ⟨busy, phase⟩ := hq
    obtain ⟨t, answer⟩ := exec_answers hs busy phase
    have left := exec_stepsLeft hs busy phase answer
    rw [stepsLeft, hi] at h
    exact absurd (left.symm.trans h) (Nat.succ_ne_zero _)
  · next hi =>
    obtain ⟨notBusy, -⟩ := hq
    exact ⟨upc_of_idle hi, notBusy⟩
  · exact hq.elim

/-- While something is left the block is busy, and a slot the host leaves to it takes one from it. -/
theorem Sound.step_of_stepsLeft_succ {n : Nat} (hs : Sound s) (hh : s.host = []) (hn : stepsLeft s = n + 1) :
    s.status.busy = true ∧ ∃ v, step s = .next v ∧ Sound v ∧ v.host = [] ∧ stepsLeft v = n := by
  cases hi : decodeUop s.upc with
  | error e =>
    rw [stepsLeft, hi] at hn
    cases hn
  | ok i =>
    obtain ⟨busy, phase⟩ := hs.running hi
    obtain ⟨v, answer⟩ := exec_answers hs busy phase
    have first : step s = .next v := (step_of_silent hh).trans ((uopStep_of hi).trans answer)
    have left := exec_stepsLeft hs busy phase answer
    rw [stepsLeft, hi] at hn
    exact ⟨busy, v, first, stepKeepsTheInvariant s v hs first, ((exec_facing i).host_eq answer).trans hh,
      Nat.succ.inj (left.symm.trans hn)⟩

/-- Settles O49, by induction on what is left: a step takes one from it, and a block with nothing left is idle. -/
theorem everyCommandEnds : Obligations.EveryCommandEnds := by
  intro s hs hh
  generalize hn : stepsLeft s = n
  induction n generalizing s with
  | zero => exact ⟨⟨s, rfl, hs.idle_of_stepsLeft_eq_zero hn⟩, fun k hk => absurd hk (Nat.not_lt_zero k)⟩
  | succ n ih =>
    obtain ⟨busy, v, first, hv, hvh, hvn⟩ := hs.step_of_stepsLeft_succ hh hn
    obtain ⟨ends, runs⟩ := ih v hv hvh hvn
    rw [runSteps_succ_of_step first]
    refine ⟨ends, fun k hk => ?_⟩
    cases k with
    | zero => exact ⟨s, rfl, busy⟩
    | succ k =>
      rw [runSteps_succ_of_step first]
      exact runs k (Nat.lt_of_succ_lt_succ hk)

end Sys2Proof.Machine
